-- ==== Sys2Proof/Word.lean ====
section
/-! DEFINITION. The two word types of the Lockers frame codec: the byte every data path carries (00_scope.md R7,
R10) and the 12-bit operation word (30_encoding.md R85). -/

namespace Sys2Proof

/-- A byte: 8 bits, an unsigned value 0 to 255 (00_scope.md R10). -/
abbrev Byte := BitVec 8

/-- The operation word `PORT`: selector in bits 11 to 8, operand in bits 7 to 0 (30_encoding.md R85). -/
abbrev PortWord := BitVec 12

end Sys2Proof
end

