-- ==== Sys2Proof/Config.lean ====
section
/-! DEFINITION. What one instance of the system fixes: the named parameters of 00_scope.md section 4 with the source's
defaults (D28). The constants of the frame format, which no instance may choose (R3), stand in
Sys2Proof/Machine/Format.lean. The spec leaves no value of an operation open (93_implementation_defined.md part 1), so
there is no free value here. -/

namespace Sys2Proof

/-- The parameters of an instance, "fixed for the lifetime of an instance" (D28). No step writes them. -/
structure Params where
  /-- `RX_CHUNK`, the most bytes of one read event (00_scope.md R5). -/
  rxChunk : Nat
  /-- `BACKOFF_MS`, the reconnect backoff (00_scope.md R6). -/
  backoffMs : Nat
  /-- `POLL_MS`, the poll interval (00_scope.md R6). -/
  pollMs : Nat
  /-- `RESP_TIMEOUT`, OPEN, `none` is the source's behaviour (D24; DESIGN CHOICE, log 8). -/
  respTimeout : Option Nat
deriving DecidableEq, Repr

/-- The source's defaults (00_scope.md R5, R6; D24). -/
def Params.standard : Params :=
  { rxChunk := 32, backoffMs := 10000, pollMs := 10000, respTimeout := none }

end Sys2Proof
end

