-- ==== Sys2Proof/Machine/Format.lean ====
section
/-! DEFINITION. The constants of the frame format (00_scope.md R3, R4): each literal of the source once, by name. The
literals were audited by nobody (91_not_in_source.md N17: UNVERIFIED, log 18). -/

namespace Sys2Proof

/-- `MAGIC`, the four header bytes, offset 0 first (00_scope.md R3). -/
def magic : List Byte := [0x57, 0x4B, 0x4C, 0x59]

/-- `MAGIC[i]` for offsets 0 to 3 (00_scope.md R3); no rule reads it at another offset. -/
def magicAt : Nat → Byte
  | 0 => 0x57
  | 1 => 0x4B
  | 2 => 0x4C
  | _ => 0x59

/-- `CMD_LEN`, the bytes of a command frame (00_scope.md R3). -/
def cmdLen : Nat := 9

/-- `CMD_LEN_BYTE`, the length byte of a command frame (00_scope.md R3, 30_encoding.md R72). -/
def cmdLenByte : Byte := 0x09

/-- `RESP_LEN`, the bytes of a response frame (00_scope.md R4, 90_conflicts.md C2, D2). -/
def respLen : Nat := 11

/-- `STATUS_OK` (00_scope.md R3). -/
def statusOkByte : Byte := 0x00

/-- `LOCK_UNLOCKED` (00_scope.md R3). -/
def lockUnlockedByte : Byte := 0x00

/-- `LOCK_LOCKED` (00_scope.md R3). -/
def lockLockedByte : Byte := 0x01

/-- `commandKind`: the closed set of the two commands (30_encoding.md R80). -/
inductive CommandKind where
  | unlock
  | status
deriving DecidableEq, Repr

/-- `op(kind)`, the command byte: `OP_UNLOCK`, `OP_STATUS` (00_scope.md R3, R12). -/
def CommandKind.op : CommandKind → Byte
  | .unlock => 0x82
  | .status => 0x83

end Sys2Proof
end

