-- ==== Sys2Proof/Machine/Checksum.lean ====
section
/-! DEFINITION. The XOR checksum unit (40_checksum.md): the function `xorfold` and its two micro-operations. -/

namespace Sys2Proof

/-- `xorfold(s)`: the exclusive-or of all bytes of `s` (40_checksum.md R100). -/
def xorfold : List Byte → Byte
  | [] => 0x00
  | b :: s => b ^^^ xorfold s

/-- `CS.CLR`: the cleared accumulator (40_checksum.md R102). -/
def csClr : Byte := 0x00

/-- `CS.ACC acc, b`: one byte folded into an accumulator (40_checksum.md R103). -/
def csAcc (acc b : Byte) : Byte := acc ^^^ b

/-- The checksum test of a received frame: its last byte equals the XOR of those before it (40_checksum.md R105). -/
def checksumOk (f : List Byte) : Bool :=
  match f.getLast? with
  | none => false
  | some x => x == xorfold f.dropLast

end Sys2Proof
end

