-- ==== Sys2Proof/Machine/Codec.lean ====
section
/-! DEFINITION. The functional layer (00_scope.md R9, R12): the source's pure functions, with no state. `encode`
(41_tx_encode.md R120) is `encodeFrame` here, since `encode` is the encoder of instructions. -/

namespace Sys2Proof

/-- The first eight bytes of a command frame, those its checksum covers (30_encoding.md R70, R73). -/
def commandBody (k : CommandKind) (board chan : Byte) : List Byte :=
  magic ++ [cmdLenByte, board, k.op, chan]

/-- `encode(kind, board, chan)`: the nine bytes of a command frame (41_tx_encode.md R120). -/
def encodeFrame (k : CommandKind) (board chan : Byte) : List Byte :=
  commandBody k board chan ++ [xorfold (commandBody k board chan)]

/-- A well-formed command frame (30_encoding.md R71). -/
def isCommandFrame : List Byte → Bool
  | [m0, m1, m2, m3, l, b, o, c, x] =>
    [m0, m1, m2, m3] == magic && l == cmdLenByte
      && (o == CommandKind.unlock.op || o == CommandKind.status.op)
      && x == xorfold [m0, m1, m2, m3, l, b, o, c]
  | _ => false

/-- `hdrMatch(s)`: `s` starts with the magic header (42_rx_header_detect.md R140). -/
def hdrMatch (s : List Byte) : Bool := s.take 4 == magic

/-- `ParsedResponse`, the six bytes of a verified response (43_rx_verify_parse.md R152, 10_state.md R35). -/
structure ParsedResponse where
  len : Byte
  board : Byte
  cmd : Byte
  status : Byte
  chan : Byte
  lock : Byte
deriving DecidableEq, Repr

/-- `VerificationError`: the two ways verification fails (43_rx_verify_parse.md R150). -/
inductive VerificationError where
  | headerMismatch
  | checksumMismatch
deriving DecidableEq, Repr

/-- `parse(s)`: the fields at the fixed offsets; used on verified sequences only (43_rx_verify_parse.md R152). -/
def parse (s : List Byte) : ParsedResponse :=
  { len := s.getD 4 0, board := s.getD 5 0, cmd := s.getD 6 0, status := s.getD 7 0, chan := s.getD 8 0,
    lock := s.getD 9 0 }

/-- `verify(s)`: the first clause that applies (43_rx_verify_parse.md R150, R151). -/
def verify (s : List Byte) : Except VerificationError ParsedResponse :=
  if !hdrMatch s then .error .headerMismatch
  else if s.length < respLen then .error .checksumMismatch
  else if s[respLen - 1]? ≠ some (xorfold (s.take (respLen - 1))) then .error .checksumMismatch
  else .ok (parse s)

/-- What `verifyCmd` returns on success (43_rx_verify_parse.md R165). -/
structure ParsedCommand where
  len : Byte
  board : Byte
  cmd : Byte
  chan : Byte
deriving DecidableEq, Repr

/-- `verifyCmd(s)`, the verifier of command frames; no operation of the block does this (43_rx_verify_parse.md R165). -/
def verifyCmd (s : List Byte) : Except VerificationError ParsedCommand :=
  if !hdrMatch s then .error .headerMismatch
  else if s.length < cmdLen ∨ s[cmdLen - 1]? ≠ some (xorfold (s.take (cmdLen - 1))) then
    .error .checksumMismatch
  else .ok { len := s.getD 4 0, board := s.getD 5 0, cmd := s.getD 6 0, chan := s.getD 7 0 }

/-- The first ten bytes of a response frame, those its checksum covers (30_encoding.md R73, R74). -/
def responseBody (p : ParsedResponse) : List Byte :=
  magic ++ [p.len, p.board, p.cmd, p.status, p.chan, p.lock]

/-- `mkResponse`: the response frame with these six fields; it stands for the board (43_rx_verify_parse.md R167). -/
def mkResponse (p : ParsedResponse) : List Byte := responseBody p ++ [xorfold (responseBody p)]

/-- The kind a command echo names (44_response_classify.md R180). -/
inductive EchoKind where
  | other
  | unlock
  | status
deriving DecidableEq, Repr

/-- `cmdKind(e)` (44_response_classify.md R180). -/
def cmdKind (e : Byte) : EchoKind :=
  if e == CommandKind.unlock.op then .unlock else if e == CommandKind.status.op then .status else .other

/-- The echo kind a command kind expects (44_response_classify.md R185). -/
def CommandKind.echo : CommandKind → EchoKind
  | .unlock => .unlock
  | .status => .status

/-- `statusOk(s)` (44_response_classify.md R181). -/
def statusOk (st : Byte) : Bool := st == statusOkByte

/-- The three classes of a lock status (44_response_classify.md R182). -/
inductive LockClass where
  | unlocked
  | locked
  | invalid
deriving DecidableEq, Repr

/-- `lockClass(k)`: the whole byte is compared (44_response_classify.md R182, 90_conflicts.md C6). -/
def lockClass (k : Byte) : LockClass :=
  if k == lockUnlockedByte then .unlocked else if k == lockLockedByte then .locked else .invalid

/-- `addrMatch(p, board, chan)` (44_response_classify.md R183). -/
def addrMatch (p : ParsedResponse) (board chan : Byte) : Bool := p.board == board && p.chan == chan

/-- The four values of `RD.CLASS` (44_response_classify.md R186, 10_state.md R39). -/
structure ClassFlags where
  addrMatch : Bool
  statusOk : Bool
  cmdKind : EchoKind
  lockClass : LockClass
deriving DecidableEq, Repr

/-- The classifier's outputs for a parsed response and an identity (44_response_classify.md R186). -/
def classFlags (p : ParsedResponse) (board chan : Byte) : ClassFlags :=
  { addrMatch := Sys2Proof.addrMatch p board chan, statusOk := Sys2Proof.statusOk p.status,
    cmdKind := Sys2Proof.cmdKind p.cmd, lockClass := Sys2Proof.lockClass p.lock }

/-- The outcomes of `classify` (44_response_classify.md R185). -/
inductive Classification where
  | addressMismatch
  | commandMismatch
  | statusError
  | unknownLockStatus
  | accept (k : LockClass)
deriving DecidableEq, Repr

/-- The host's reading of the classifier's four values (44_response_classify.md R186, last part). -/
def classifyFlags (f : ClassFlags) (expected : CommandKind) : Classification :=
  if !f.addrMatch then .addressMismatch
  else if f.cmdKind ≠ expected.echo then .commandMismatch
  else if !f.statusOk then .statusError
  else if f.lockClass = .invalid then .unknownLockStatus
  else .accept f.lockClass

/-- `classify(p, board, chan, expected)`: the first outcome that applies (44_response_classify.md R185). -/
def classify (p : ParsedResponse) (board chan : Byte) (expected : CommandKind) : Classification :=
  if !addrMatch p board chan then .addressMismatch
  else if cmdKind p.cmd ≠ expected.echo then .commandMismatch
  else if !statusOk p.status then .statusError
  else if lockClass p.lock = .invalid then .unknownLockStatus
  else .accept (lockClass p.lock)

end Sys2Proof
end

