-- ==== Sys2Proof/Syntax.lean ====
section
/-! DEFINITION. The instructions: one constructor per row of spec/opcode_table.json. The five frame kinds carry the bytes
their rows leave free, under the rows' letters (30_encoding.md R76, R77); the thirteen port operations carry their
operand, if they take one (30_encoding.md R84). -/

namespace Sys2Proof

/-- The eighteen rows of the opcode table. -/
inductive Instr where
  /-- `UNLOCK`: the command frame with board id, channel id and checksum (30_encoding.md R70, R76). -/
  | unlock (b c x : Byte)
  /-- `STATUS`: as `UNLOCK` with command byte 0x83 (30_encoding.md R70, R76). -/
  | status (b c x : Byte)
  /-- `RSP.UNLOCK`: length, board, status, channel, lock status, checksum (30_encoding.md R74, R76). -/
  | rspUnlock (l b s c k x : Byte)
  /-- `RSP.STATUS`: as `RSP.UNLOCK` with echo 0x83 (30_encoding.md R74, R76). -/
  | rspStatus (l b s c k x : Byte)
  /-- `RSP.OTHER`: any other echo `e` (30_encoding.md R74, R76). -/
  | rspOther (l b e s c k x : Byte)
  /-- `SETBOARD d` (45_system_ops.md R190). -/
  | setBoard (d : Byte)
  /-- `SETCHAN d` (45_system_ops.md R191). -/
  | setChan (d : Byte)
  /-- `ENC.UNLOCK` (41_tx_encode.md R121). -/
  | encUnlock
  /-- `ENC.STATUS` (41_tx_encode.md R122). -/
  | encStatus
  /-- `TX.NEXT` (41_tx_encode.md R125). -/
  | txNext
  /-- `RX.START` (43_rx_verify_parse.md R155). -/
  | rxStart
  /-- `RX.BYTE d` (43_rx_verify_parse.md R156). -/
  | rxByte (d : Byte)
  /-- `RX.END` (43_rx_verify_parse.md R158). -/
  | rxEnd
  /-- `RD.RESULT` (45_system_ops.md R192). -/
  | rdResult
  /-- `RD.FIELD f` (45_system_ops.md R193). -/
  | rdField (f : Byte)
  /-- `RD.CLASS` (44_response_classify.md R186). -/
  | rdClass
  /-- `RD.STAT` (45_system_ops.md R194). -/
  | rdStat
  /-- `RESET` (45_system_ops.md R195). -/
  | reset
deriving DecidableEq, Repr

/-- An instruction as it is written down: an operation word at the port, or a frame on the line with the direction that
decides its format (30_encoding.md R79, R85). -/
inductive Request where
  /-- An operation word (30_encoding.md R85). -/
  | port (w : PortWord)
  /-- Bytes the block sends. -/
  | sent (bytes : List Byte)
  /-- Bytes the block receives in one read event. -/
  | received (bytes : List Byte)
deriving DecidableEq, Repr

end Sys2Proof
end

