-- ==== Sys2Proof/Machine/State.lean ====
section
/-! DEFINITION. The state of the frame codec and of the environment it lives in, as plain data: the three register groups
of the block (10_state.md R20), the host link controller (10_state.md R41), the parameters, the outputs of the last step
and the inputs not yet taken. Every reset value is the spec's (70_reset_and_hazards.md R301, R303) but for the model's own
fields (DESIGN CHOICE, log 1, log 9). -/

namespace Sys2Proof.Machine

/-- The identity registers; `none` is the spec's own unset value (10_state.md R28). -/
structure Identity where
  /-- `ID_BOARD`. -/
  board : Option Byte
  /-- `ID_CHAN`. -/
  chan : Option Byte
deriving DecidableEq, Repr

/-- The TX unit (10_state.md R23 to R26). -/
structure TxUnit where
  /-- `tx_busy`. -/
  busy : Bool
  /-- `tx_idx`, range 0 to 8; the values 9 to 15 are never taken (R24). -/
  idx : Fin 9
  /-- `tx_board`. -/
  board : Byte
  /-- `tx_cmd`. -/
  cmd : Byte
  /-- `tx_chan`. -/
  chan : Byte
  /-- `tx_xor`. -/
  xor : Byte
deriving DecidableEq, Repr

/-- `rx_phase` (10_state.md R29). -/
inductive RxPhase where
  | closed
  | opened
deriving DecidableEq, Repr

/-- The verdict on a chunk (43_rx_verify_parse.md R158). `rx_result` is an optional verdict: `none` is the spec's `None`
(10_state.md R34). -/
inductive Verdict where
  | ok
  | headerMismatch
  | checksumMismatch
deriving DecidableEq, Repr

/-- The capture registers `cap[4]` to `cap[10]`, optional bytes (10_state.md R33). -/
structure Captures where
  c4 : Option Byte
  c5 : Option Byte
  c6 : Option Byte
  c7 : Option Byte
  c8 : Option Byte
  c9 : Option Byte
  c10 : Option Byte
deriving DecidableEq, Repr

/-- The RX unit (10_state.md R29 to R34). -/
structure RxUnit where
  /-- `rx_phase`. -/
  phase : RxPhase
  /-- `rx_cnt`. -/
  cnt : Nat
  /-- `rx_hdr_ok`. -/
  hdrOk : Bool
  /-- `rx_xor`. -/
  xor : Byte
  /-- `cap[4]` to `cap[10]`. -/
  cap : Captures
  /-- `rx_result`. -/
  result : Option Verdict
deriving DecidableEq, Repr

/-- `link`, the Link State (46_host_link_controller.md R204). -/
inductive LinkState where
  | idle
  | unlocking
  | waitingToUnlock
  | polling
deriving DecidableEq, Repr

/-- The host link controller (46_host_link_controller.md R204 to R207). -/
structure Controller where
  /-- `link`. -/
  link : LinkState
  /-- `retry`, the Retry Flag. -/
  retry : Bool
  /-- `port_open`. -/
  portOpen : Bool
  /-- How many poll timers are pending (R207, R319; log 10). -/
  pollTimers : Nat
  /-- How many reconnect timers are pending (R207; log 10). -/
  reconnectTimers : Nat
deriving DecidableEq, Repr

/-- The record `RD.STAT` returns (45_system_ops.md R194). -/
structure StatRecord where
  txBusy : Bool
  txIdx : Fin 9
  rxOpen : Bool
  hdrDet : Bool
  rxCnt : Nat
deriving DecidableEq, Repr

/-- The answer of an operation (30_encoding.md R84, column "answer" of the opcode table). -/
inductive Answer where
  /-- The operation returns nothing. -/
  | nothing
  /-- `ENC.*` accepted (41_tx_encode.md R123). -/
  | accepted
  /-- Refused: no state change (00_scope.md R11, D25). -/
  | refused
  /-- `TX.NEXT` with nothing to send (41_tx_encode.md R126). -/
  | empty
  /-- A byte, of `TX.NEXT` or `RD.FIELD`. -/
  | byte (b : Byte)
  /-- `rx_result`, of `RX.END` and `RD.RESULT`; `none` is the spec's `None`. -/
  | result (r : Option Verdict)
  /-- The four values of `RD.CLASS`. -/
  | classFlags (f : ClassFlags)
  /-- The five values of `RD.STAT`. -/
  | stat (r : StatRecord)
  /-- The bytes a whole command frame put on the line (41_tx_encode.md R128; log 3). -/
  | frame (bytes : List Byte)
deriving DecidableEq, Repr

/-- The errors the source names (60_exceptions.md R260). -/
inductive ErrorName where
  | headerMismatch
  | checksumMismatch
  | addressMismatch
  | commandMismatch
  | statusError
  | unknownLockStatus
  | transportWriteFailure
  | transportOpenFailure
deriving DecidableEq, Repr

/-- What the controller does to the outside (46_host_link_controller.md R226, R227, R231, R232). -/
inductive Action where
  /-- The port was opened. -/
  | openedPort
  /-- The port was closed. -/
  | closedPort
  /-- These bytes were written and flushed (R210). -/
  | wrote (frame : List Byte)
  /-- An error of the taxonomy was recognised (60_exceptions.md R260). -/
  | recognised (e : ErrorName)
  /-- The event `linkError` to the caller (R232). -/
  | linkError
  /-- The event `locked` to the caller (R231). -/
  | locked
  /-- A poll timer was armed for this many milliseconds (R225). -/
  | armedPoll (ms : Nat)
  /-- A reconnect timer was armed for this many milliseconds (R227). -/
  | armedReconnect (ms : Nat)
deriving DecidableEq, Repr

/-- What reaches the controller from outside (60_exceptions.md R266). -/
inductive Event where
  /-- `unlock()` (46_host_link_controller.md R212). -/
  | unlockCall
  /-- `poll()` (46_host_link_controller.md R213). -/
  | pollCall
  /-- `setBoard(id)` (46_host_link_controller.md R214). -/
  | setBoardCall (d : Byte)
  /-- `setChannel(id)` (46_host_link_controller.md R214). -/
  | setChannelCall (d : Byte)
  /-- "Data available", with the bytes the transport holds (46_host_link_controller.md R211). -/
  | dataAvailable (bytes : List Byte)
  /-- A reconnect timer elapsed (46_host_link_controller.md R228). -/
  | reconnectElapsed
  /-- A poll timer elapsed (46_host_link_controller.md R229). -/
  | pollElapsed
  /-- A transport error, the link drops (46_host_link_controller.md R230). -/
  | transportError
  /-- `RESP_TIMEOUT` passed without a response, where an instance sets one (D24, OPEN; log 8). -/
  | responseOverdue
deriving DecidableEq, Repr

/-- The transport's answer to an open or to a write with flush (60_exceptions.md R278). -/
inductive TransportReply where
  | succeeded
  | failed
deriving DecidableEq, Repr

/-- What a handler of the controller asks of the transport and goes on from when it is answered (60_exceptions.md R278). -/
inductive TransportCall where
  /-- Open the port (46_host_link_controller.md R227). -/
  | openPort
  /-- Write and flush this frame (46_host_link_controller.md R210). -/
  | write (frame : List Byte)
deriving DecidableEq, Repr

/-- One input of the machine, taken between operations (00_scope.md R8; log 1). -/
inductive Input where
  /-- An operation or frame put to the block by an unconstrained issuer (46_host_link_controller.md R200). -/
  | request (r : Request)
  /-- An event for the controller (60_exceptions.md R266). -/
  | event (e : Event)
deriving DecidableEq, Repr

/-- The machine: block, environment, outputs of the last step, inputs to come. -/
structure State where
  /-- The identity registers (10_state.md R28). -/
  ident : Identity
  /-- The TX unit (10_state.md R23 to R26). -/
  tx : TxUnit
  /-- The RX unit (10_state.md R29 to R34). -/
  rx : RxUnit
  /-- The host link controller (10_state.md R41). -/
  ctl : Controller
  /-- The parameters of the instance (00_scope.md R5, R6); no step writes them. -/
  params : Params
  /-- The answer of the last operation (00_scope.md R14; the model's own field, log 1). -/
  answer : Answer
  /-- `ev_rx_done`, if the last step signalled it (43_rx_verify_parse.md R169; the model's own field, log 1). -/
  rxDone : Option Verdict
  /-- What the controller did in the last step, in order (the model's own field, log 1). -/
  actions : List Action
  /-- The inputs not yet taken, first first (20_memory.md R60; the model's own field, log 1). -/
  inbox : List Input
  /-- The transport's coming answers, first first (the model's own field, log 9). -/
  replies : List TransportReply
deriving DecidableEq, Repr

/-- Why the machine stops. -/
inductive Fault where
  /-- A capture register that holds `none` is read as a byte (00_scope.md R11 does not define it). Raised by `RX.END`,
  `RD.FIELD`, `RD.CLASS` in states no run reaches (93_implementation_defined.md U5). Safe: the machine stops (log 6). -/
  | captureAbsent
deriving DecidableEq, Repr

/-- Why an instruction has no meaning. -/
inductive Refusal where
  /-- An instruction not modelled yet; raised by no arm of this model. Safe: the machine stops. -/
  | notModelled (mnemonic : String)
deriving DecidableEq, Repr

/-- No capture register holds a byte (10_state.md R33). -/
def Captures.blank : Captures :=
  { c4 := none, c5 := none, c6 := none, c7 := none, c8 := none, c9 := none, c10 := none }

/-- The identity after reset (70_reset_and_hazards.md R301, R302). -/
def Identity.atReset : Identity := { board := none, chan := none }

/-- The TX unit after reset (70_reset_and_hazards.md R301). -/
def TxUnit.atReset : TxUnit := { busy := false, idx := 0, board := 0x00, cmd := 0x00, chan := 0x00, xor := 0x00 }

/-- The RX unit after reset (70_reset_and_hazards.md R301). -/
def RxUnit.atReset : RxUnit :=
  { phase := .closed, cnt := 0, hdrOk := true, xor := 0x00, cap := Captures.blank, result := none }

/-- The controller at start (70_reset_and_hazards.md R303). -/
def Controller.atStart : Controller :=
  { link := .idle, retry := false, portOpen := false, pollTimers := 0, reconnectTimers := 0 }

/-- The machine right after power-on: the block reset (70_reset_and_hazards.md R300, R301), the environment at its start
(R303), no output made and no input given. -/
def State.reset : State :=
  { ident := Identity.atReset, tx := TxUnit.atReset, rx := RxUnit.atReset, ctl := Controller.atStart,
    params := Params.standard, answer := .nothing, rxDone := none, actions := [], inbox := [], replies := [] }

end Sys2Proof.Machine
end

