-- ==== Sys2Proof/Machine/Operands.lean ====
section
/-! DEFINITION. The operand forms of the operations: the capture registers by frame offset, the field selector of
`RD.FIELD`, the identity pair that `ENC.*` and `RD.CLASS` read, and the byte `TX.NEXT` returns at an offset. -/

namespace Sys2Proof.Machine

/-- `cap[i]`; no rule reads it outside offsets 4 to 10 (10_state.md R33). -/
def Captures.read (c : Captures) : Nat → Option Byte
  | 4 => c.c4
  | 5 => c.c5
  | 6 => c.c6
  | 7 => c.c7
  | 8 => c.c8
  | 9 => c.c9
  | 10 => c.c10
  | _ => none

/-- `cap[i] <- d`; no rule writes it outside offsets 4 to 10 (43_rx_verify_parse.md R156). -/
def Captures.write (c : Captures) (i : Nat) (d : Byte) : Captures :=
  match i with
  | 4 => { c with c4 := some d }
  | 5 => { c with c5 := some d }
  | 6 => { c with c6 := some d }
  | 7 => { c with c7 := some d }
  | 8 => { c with c8 := some d }
  | 9 => { c with c9 := some d }
  | 10 => { c with c10 := some d }
  | _ => c

/-- The record of the captured fields, if all six hold a byte (10_state.md R35). -/
def Captures.fields (c : Captures) : Option ParsedResponse :=
  match c.c4, c.c5, c.c6, c.c7, c.c8, c.c9 with
  | some l, some b, some e, some s, some h, some k =>
    some { len := l, board := b, cmd := e, status := s, chan := h, lock := k }
  | _, _, _, _, _, _ => none

/-- `parsed`: the captured fields of a verified chunk, absent otherwise (10_state.md R35). -/
def RxUnit.parsed (rx : RxUnit) : Option ParsedResponse :=
  if rx.result = some .ok then rx.cap.fields else none

/-- The frame offset a field selector names, `none` for 6 to 255 (30_encoding.md R87, 45_system_ops.md R193). -/
def fieldOffset (f : Byte) : Option Nat := if f.toNat ≤ 5 then some (4 + f.toNat) else none

/-- The Board Identity, if both registers are set (10_state.md R28). -/
def Identity.pair (d : Identity) : Option (Byte × Byte) :=
  match d.board, d.chan with
  | some b, some c => some (b, c)
  | _, _ => none

/-- The byte at a `CMD` offset (20_memory.md R56, 41_tx_encode.md R125). -/
def TxUnit.byteAt (tx : TxUnit) (i : Nat) : Byte :=
  if i ≤ 3 then magicAt i
  else if i = 4 then cmdLenByte
  else if i = 5 then tx.board
  else if i = 6 then tx.cmd
  else if i = 7 then tx.chan
  else tx.xor

end Sys2Proof.Machine
end

