-- ==== Sys2Proof/Machine/Flags.lean ====
section
/-! DEFINITION. The status flags and views of the block (10_state.md R36, R38, R39): the header comparison, the header
detector's output, the verdict on a chunk, the records and packed forms the read operations return. Packed forms are a
naming device (D16). -/

namespace Sys2Proof.Machine

/-- `HD.CMP`: the running header flag after byte `d` at offset `i` (42_rx_header_detect.md R141). -/
def hdCmp (ok : Bool) (i : Nat) (d : Byte) : Bool := ok && d == magicAt i

/-- `hdr_det` (10_state.md R36, 42_rx_header_detect.md R142). -/
def RxUnit.hdrDet (rx : RxUnit) : Bool := decide (4 ≤ rx.cnt) && rx.hdrOk

/-- `rx_open` (10_state.md R38). -/
def RxUnit.isOpen (rx : RxUnit) : Bool := rx.phase == .opened

/-- The verdict of `RX.END`, `none` where `cap[10]` would have to be read and holds no byte
(43_rx_verify_parse.md R158; log 6). -/
def RxUnit.verdict (rx : RxUnit) : Option Verdict :=
  if rx.cnt < 4 ∨ rx.hdrOk = false then some .headerMismatch
  else if rx.cnt < respLen then some .checksumMismatch
  else
    match rx.cap.read (respLen - 1) with
    | none => none
    | some x => some (if x ≠ rx.xor then .checksumMismatch else .ok)

/-- The record of `RD.STAT` (45_system_ops.md R194). -/
def statRecord (tx : TxUnit) (rx : RxUnit) : StatRecord :=
  { txBusy := tx.busy, txIdx := tx.idx, rxOpen := rx.isOpen, hdrDet := rx.hdrDet, rxCnt := rx.cnt }

/-- `RESULT`, the code of `rx_result` (10_state.md R39). -/
def resultCode : Option Verdict → Nat
  | none => 0
  | some .ok => 1
  | some .headerMismatch => 2
  | some .checksumMismatch => 3

/-- A flag as one bit. -/
def bit (b : Bool) : Nat := if b then 1 else 0

/-- `STAT`, packed; `rx_cnt` stands above bit 6 and is not cut (10_state.md R39, D29). -/
def StatRecord.packed (r : StatRecord) : Nat :=
  bit r.txBusy + 2 * r.txIdx.val + 32 * bit r.rxOpen + 64 * bit r.hdrDet + 128 * r.rxCnt

/-- The code of a command kind in `CLASS` (10_state.md R39). -/
def echoCode : EchoKind → Nat
  | .other => 0
  | .unlock => 1
  | .status => 2

/-- The code of a lock class in `CLASS` (10_state.md R39). -/
def lockCode : LockClass → Nat
  | .unlocked => 0
  | .locked => 1
  | .invalid => 2

/-- `CLASS`, packed (10_state.md R39, 44_response_classify.md R186). -/
def packedClass (f : ClassFlags) : Nat :=
  bit f.addrMatch + 2 * bit f.statusOk + 4 * echoCode f.cmdKind + 16 * lockCode f.lockClass

/-- The code of an error of the taxonomy (60_exceptions.md R260). -/
def ErrorName.code : ErrorName → Nat
  | .headerMismatch => 2
  | .checksumMismatch => 3
  | .addressMismatch => 4
  | .commandMismatch => 5
  | .statusError => 6
  | .unknownLockStatus => 7
  | .transportWriteFailure => 8
  | .transportOpenFailure => 9

end Sys2Proof.Machine
end

