-- ==== Sys2Proof/Machine/Ops.lean ====
section
/-! DEFINITION. The named operations over the registers that the meanings share: answering, composing and delivering a
command frame, taking a chunk's bytes, giving a verdict (the block's one way of raising an error, 60_exceptions.md R268),
and the frame-level transactions. The block has no memory (20_memory.md R50) and no return from an error: the held verdict
is replaced at the next `RX.START`, `RX.END` or `RESET` (60_exceptions.md R270). -/

namespace Sys2Proof.Machine

/-- The outcome of a meaning. -/
abbrev Result := Host.Outcome State Fault Refusal

/-- The state with new identity registers. -/
def State.withIdent (s : State) (d : Identity) : State := { s with ident := d }

/-- The state with a new TX unit. -/
def State.withTx (s : State) (tx : TxUnit) : State := { s with tx := tx }

/-- The state with a new RX unit. -/
def State.withRx (s : State) (rx : RxUnit) : State := { s with rx := rx }

/-- The operation answers `a` and signals no event (00_scope.md R8, R14). -/
def State.reply (s : State) (a : Answer) : State := { s with answer := a, rxDone := none }

/-- The operation answers `a`, whatever event it signalled. -/
def State.answering (s : State) (a : Answer) : State := { s with answer := a }

/-- A refused operation: no register changes, the answer is `refused` (00_scope.md R11, D25; log 2). -/
def State.refuse (s : State) : State := s.reply .refused

/-- Every register of the block at its reset value; the environment is not touched (45_system_ops.md R195). -/
def State.resetBlock (s : State) : State :=
  { s with ident := Identity.atReset, tx := TxUnit.atReset, rx := RxUnit.atReset }

/-- A frame latched for sending (41_tx_encode.md R123). -/
def TxUnit.latch (k : CommandKind) (board chan : Byte) : TxUnit :=
  { busy := true, idx := 0, board := board, cmd := k.op, chan := chan, xor := csClr }

/-- The TX unit after the byte at its offset is returned, while busy (41_tx_encode.md R125). -/
def TxUnit.advance (tx : TxUnit) : TxUnit :=
  if h : tx.idx.val ≤ 7 then
    { tx with xor := csAcc tx.xor (tx.byteAt tx.idx.val), idx := ⟨tx.idx.val + 1, by omega⟩ }
  else { tx with xor := csClr, idx := 0, busy := false }

/-- The next byte of the frame and the TX unit after it; none when idle (41_tx_encode.md R125, R126). -/
def TxUnit.next (tx : TxUnit) : Option (Byte × TxUnit) :=
  if tx.busy then some (tx.byteAt tx.idx.val, tx.advance) else none

/-- The bytes that `n` calls of `TX.NEXT` return, and the TX unit after them. -/
def TxUnit.drain : Nat → TxUnit → List Byte × TxUnit
  | 0, tx => ([], tx)
  | n + 1, tx =>
    match tx.next with
    | none => ([], tx)
    | some (b, tx') => (b :: (tx'.drain n).1, (tx'.drain n).2)

/-- `ENC.k`: refused while the identity is unset, accepted otherwise, busy or not (41_tx_encode.md R123, R124, R127). -/
def encodeCommand (k : CommandKind) (s : State) : State :=
  match s.ident.pair with
  | none => s.refuse
  | some (b, c) => (s.withTx (TxUnit.latch k b c)).reply .accepted

/-- `ENC.k` and nine `TX.NEXT`: the bytes the block sends and the state after; none if `ENC.k` is refused
(30_encoding.md R90, 41_tx_encode.md R128). -/
def composeFrame (k : CommandKind) (s : State) : Option (List Byte × State) :=
  match s.ident.pair with
  | none => none
  | some (b, c) =>
    some (((TxUnit.latch k b c).drain cmdLen).1, s.withTx ((TxUnit.latch k b c).drain cmdLen).2)

/-- The block sends exactly the frame `f` of kind `k`; where it could not (the identity is unset, or composes another
frame) the transaction is refused (41_tx_encode.md R121, R124, R128; log 3). -/
def sendFrame (k : CommandKind) (f : List Byte) (s : State) : State :=
  match composeFrame k s with
  | none => s.refuse
  | some (bytes, s') => if bytes = f then s'.reply (.frame bytes) else s.refuse

/-- The RX unit at the start of a chunk (43_rx_verify_parse.md R155). -/
def RxUnit.started : RxUnit :=
  { phase := .opened, cnt := 0, hdrOk := true, xor := csClr, cap := Captures.blank, result := none }

/-- The RX unit after a byte of an open chunk (43_rx_verify_parse.md R156). -/
def RxUnit.accept (rxChunk : Nat) (rx : RxUnit) (d : Byte) : RxUnit :=
  if rx.cnt = rxChunk then rx
  else
    { rx with
      hdrOk := if rx.cnt ≤ 3 then hdCmp rx.hdrOk rx.cnt d else rx.hdrOk
      cap := if 4 ≤ rx.cnt ∧ rx.cnt ≤ respLen - 1 then rx.cap.write rx.cnt d else rx.cap
      xor := if rx.cnt ≤ respLen - 2 then csAcc rx.xor d else rx.xor
      cnt := rx.cnt + 1 }

/-- The verdict `v` closes the chunk: what `raise` does for an error, and what an `Ok` does as well
(43_rx_verify_parse.md R158, 60_exceptions.md R268). Nothing is saved, no mode changes, the block goes on. -/
def raiseVerdict (v : Verdict) (s : State) : State :=
  { s with rx := { s.rx with result := some v, phase := .closed }, rxDone := some v }

/-- `RX.END` in phase `Open` (43_rx_verify_parse.md R158). -/
def endChunk (s : State) : Result :=
  match s.rx.verdict with
  | none => .fault .captureAbsent
  | some v => .next ((raiseVerdict v s).answering (.result (some v)))

/-- `receive(chunk)`: `RX.START`, one `RX.BYTE` per byte, `RX.END` (30_encoding.md R90, 46_host_link_controller.md R211). -/
def receiveChunk (bytes : List Byte) (s : State) : Result :=
  endChunk (s.withRx (bytes.foldl (RxUnit.accept s.params.rxChunk) RxUnit.started))

end Sys2Proof.Machine
end

