-- ==== Sys2Proof/Machine/Controller.lean ====
section
/-! DEFINITION. The environment the block lives in: the host link controller (46_host_link_controller.md, D30). Each handler
is one atomic transition (R202): it runs on the transport's answers, `replies`, first first, and where these run out every
further call fails, which ends it (log 9). -/

namespace Sys2Proof.Machine

/-- The state with a new controller. -/
def State.withCtl (s : State) (c : Controller) : State := { s with ctl := c }

/-- The controller does `a` to the outside. -/
def State.emit (s : State) (a : Action) : State := { s with actions := s.actions ++ [a] }

/-- `link <- l`. -/
def State.setLink (s : State) (l : LinkState) : State := s.withCtl { s.ctl with link := l }

/-- `retry <- b`. -/
def State.setRetry (s : State) (b : Bool) : State := s.withCtl { s.ctl with retry := b }

/-- A handler under way: the state so far and the transport call it goes on from, none when it has ended. -/
abbrev Handling := State × Option TransportCall

/-- The handler ends here. -/
def State.ends (s : State) : Handling := (s, none)

/-- The handler goes on when the transport has answered the call `c`. -/
def State.calls (s : State) (c : TransportCall) : Handling := (s, some c)

/-- `expectedKind(link)`, undefined in `Idle`, where nothing is sent or expected (46_host_link_controller.md R208). -/
def LinkState.expectedKind : LinkState → Option CommandKind
  | .idle => none
  | .unlocking => some .unlock
  | .waitingToUnlock => some .status
  | .polling => some .status

/-- Close the port if it is open (46_host_link_controller.md R212, R225, R226). -/
def closePort (s : State) : State :=
  if s.ctl.portOpen then (s.withCtl { s.ctl with portOpen := false }).emit .closedPort else s

/-- `attemptOpen()`: ask the transport to open the port (46_host_link_controller.md R227). -/
def attemptOpen (s : State) : Handling := s.calls .openPort

/-- `hardReconnect()` (46_host_link_controller.md R226). -/
def hardReconnect (s : State) : Handling := attemptOpen (closePort ((s.emit .linkError).setRetry true))

/-- A failed write or flush of a command frame (46_host_link_controller.md R210, 60_exceptions.md R260). -/
def failWrite (s : State) : Handling := hardReconnect (s.emit (.recognised .transportWriteFailure))

/-- `send(kind)`: compose the frame and write it; with the identity unset nothing is sent, and a write to a closed port
fails (46_host_link_controller.md R210, D9). -/
def startSend (k : CommandKind) (s : State) : Handling :=
  match composeFrame k s with
  | none => s.ends
  | some (bytes, s') => if s'.ctl.portOpen then s'.calls (.write bytes) else failWrite s'

/-- Send the frame of the current link state, if it has one (46_host_link_controller.md R208, R222, R227; log 11). -/
def sendExpected (s : State) : Handling :=
  match s.ctl.link.expectedKind with
  | none => s.ends
  | some k => startSend k s

/-- `softRetry()` after the error `e` (46_host_link_controller.md R222). -/
def softRetry (e : ErrorName) (s : State) : Handling := sendExpected (s.emit (.recognised e))

/-- The port has not opened: the reconnect timer is armed (46_host_link_controller.md R227). -/
def openFailed (s : State) : State :=
  ((s.withCtl { s.ctl with reconnectTimers := s.ctl.reconnectTimers + 1 }).emit
    (.recognised .transportOpenFailure)).emit (.armedReconnect s.params.backoffMs)

/-- The port has opened: with `retry` set the command of the link state is sent (46_host_link_controller.md R227). -/
def openSucceeded (s : State) : Handling :=
  let s := (s.withCtl { s.ctl with portOpen := true }).emit .openedPort
  if s.ctl.retry then sendExpected (s.setRetry false) else s.ends

/-- A handler goes on from the transport's answer to its call (46_host_link_controller.md R210, R227). -/
def answered (r : TransportReply) (c : TransportCall) (s : State) : Handling :=
  match c, r with
  | .openPort, .succeeded => openSucceeded s
  | .openPort, .failed => (openFailed s).ends
  | .write f, .succeeded => (s.emit (.wrote f)).ends
  | .write _, .failed => failWrite s

/-- The handler's end when the transport answers nothing more: the call fails, and so does the opening that a failed write
asks for (log 9). -/
def unanswered (c : TransportCall) (s : State) : State :=
  match c with
  | .openPort => openFailed s
  | .write _ => openFailed (failWrite s).1

/-- Run a handler to its end on the transport's answers, first first (46_host_link_controller.md R202; log 9). -/
def drive : List TransportReply → Handling → State
  | rs, (s, none) => { s with replies := rs }
  | [], (s, some c) => { unanswered c s with replies := [] }
  | r :: rs, (s, some c) => drive rs (answered r c s)

/-- `unlock()`: valid only in `Idle`, a no-op elsewhere (46_host_link_controller.md R212, D19). -/
def onUnlock (s : State) : Handling :=
  match s.ctl.link with
  | .idle => attemptOpen (closePort ((s.setRetry true).setLink .unlocking))
  | _ => s.ends

/-- `poll()`, from any state (46_host_link_controller.md R213). -/
def onPoll (s : State) : Handling := startSend .status (s.setLink .polling)

/-- An accepted response, by link state and lock class (46_host_link_controller.md R223 to R225). -/
def onAccept (k : LockClass) (s : State) : Handling :=
  match s.ctl.link, k with
  | .unlocking, .unlocked => startSend .status (s.setLink .polling)
  | .unlocking, .locked => startSend .status (s.setLink .waitingToUnlock)
  | .waitingToUnlock, .unlocked => startSend .status (s.setLink .polling)
  | .waitingToUnlock, .locked => startSend .status s
  | .polling, .unlocked =>
    ((s.withCtl { s.ctl with pollTimers := s.ctl.pollTimers + 1 }).emit (.armedPoll s.params.pollMs)).ends
  | .polling, .locked => ((closePort (s.emit .locked)).setLink .idle).ends
  | .idle, _ => s.ends
  | _, .invalid => s.ends

/-- A verified response, classified (46_host_link_controller.md R220, 44_response_classify.md R185). -/
def onClassified (c : Classification) (s : State) : Handling :=
  match c with
  | .addressMismatch => softRetry .addressMismatch s
  | .commandMismatch => softRetry .commandMismatch s
  | .statusError => softRetry .statusError s
  | .unknownLockStatus => softRetry .unknownLockStatus s
  | .accept k => onAccept k s

/-- A verified response: classified against the identity as it is now; with no identity there is nothing to classify with
and nothing to send (46_host_link_controller.md R220, 44_response_classify.md R187; log 12). -/
def onVerified (s : State) : Handling :=
  match s.ctl.link.expectedKind, s.rx.parsed, s.ident.pair with
  | some k, some p, some (b, c) => onClassified (classifyFlags (classFlags p b c) k) s
  | _, _, _ => s.ends

/-- `ev_rx_done(v)`: ignored in `Idle` (46_host_link_controller.md R215, R216). -/
def onRxDone (v : Verdict) (s : State) : Handling :=
  match s.ctl.link with
  | .idle => s.ends
  | _ =>
    match v with
    | .headerMismatch => softRetry .headerMismatch s
    | .checksumMismatch => softRetry .checksumMismatch s
    | .ok => onVerified s

/-- A reconnect timer elapsed (46_host_link_controller.md R228; none pending: log 13). -/
def onReconnectElapsed (s : State) : Handling :=
  if s.ctl.reconnectTimers = 0 then s.ends
  else
    let s := s.withCtl { s.ctl with reconnectTimers := s.ctl.reconnectTimers - 1 }
    if s.ctl.link ≠ .idle ∧ s.ctl.portOpen = false then attemptOpen s else s.ends

/-- A poll timer elapsed (46_host_link_controller.md R229; none pending: log 13). -/
def onPollElapsed (s : State) : Handling :=
  if s.ctl.pollTimers = 0 then s.ends
  else
    let s := s.withCtl { s.ctl with pollTimers := s.ctl.pollTimers - 1 }
    if s.ctl.link = .polling then startSend .status s else s.ends

/-- A transport error: ignored in `Idle` (46_host_link_controller.md R230). -/
def onTransportError (s : State) : Handling := if s.ctl.link = .idle then s.ends else hardReconnect s

/-- The OPEN response timeout: nothing where an instance sets none (D24; log 8). -/
def onResponseOverdue (s : State) : Handling := if s.params.respTimeout.isSome then sendExpected s else s.ends

/-- Data available: the adapter reads at most `RX_CHUNK` bytes, the block judges them, the controller handles the event
(46_host_link_controller.md R211, R215). -/
def onData (bytes : List Byte) (s : State) : Host.Outcome Handling Fault Refusal :=
  match receiveChunk (bytes.take s.params.rxChunk) s with
  | .next s' =>
    match s'.rxDone with
    | some v => .next (onRxDone v (s'.answering .nothing))
    | none => .next s'.ends
  | .fault f => .fault f
  | .refused r => .refused r

/-- The handler of an event up to its first transport call (60_exceptions.md R266). -/
def handle (e : Event) (s : State) : Host.Outcome Handling Fault Refusal :=
  match e with
  | .unlockCall => .next (onUnlock s)
  | .pollCall => .next (onPoll s)
  | .setBoardCall d => .next (s.withIdent { s.ident with board := some d }).ends
  | .setChannelCall d => .next (s.withIdent { s.ident with chan := some d }).ends
  | .dataAvailable bytes => onData bytes s
  | .reconnectElapsed => .next (onReconnectElapsed s)
  | .pollElapsed => .next (onPollElapsed s)
  | .transportError => .next (onTransportError s)
  | .responseOverdue => .next (onResponseOverdue s)

/-- An event's handler, whole: all its block operations and transport calls, in one transition
(46_host_link_controller.md R202). -/
def handleEvent (e : Event) (s : State) : Result :=
  match handle e s with
  | .next h => .next (drive h.1.replies h)
  | .fault f => .fault f
  | .refused r => .refused r

end Sys2Proof.Machine
end

