-- ==== Sys2Proof/WellFormed.lean ====
section
/-! DEFINITION. Which instructions a decoder can give: the side conditions of the opcode table's rows, `check` (the last
byte is the XOR of those before it, 30_encoding.md R73, R77) and, for `RSP.OTHER`, the echo (R77). Port operations have
no side condition: a field selector above 5 is a word of the row, refused when it is issued (R87). -/

namespace Sys2Proof

/-- The response frame's fields with a fixed echo (30_encoding.md R74). -/
def responseFields (l b e s c k : Byte) : ParsedResponse :=
  { len := l, board := b, cmd := e, status := s, chan := c, lock := k }

/-- The side conditions of an instruction's row (30_encoding.md R73, R77). -/
def Instr.wellFormed : Instr → Bool
  | .unlock b c x => x == xorfold (commandBody .unlock b c)
  | .status b c x => x == xorfold (commandBody .status b c)
  | .rspUnlock l b s c k x => x == xorfold (responseBody (responseFields l b CommandKind.unlock.op s c k))
  | .rspStatus l b s c k x => x == xorfold (responseBody (responseFields l b CommandKind.status.op s c k))
  | .rspOther l b e s c k x =>
    cmdKind e == .other && x == xorfold (responseBody (responseFields l b e s c k))
  | .setBoard _ => true
  | .setChan _ => true
  | .encUnlock => true
  | .encStatus => true
  | .txNext => true
  | .rxStart => true
  | .rxByte _ => true
  | .rxEnd => true
  | .rdResult => true
  | .rdField _ => true
  | .rdClass => true
  | .rdStat => true
  | .reset => true

/-- The instruction meets its row's side conditions. -/
abbrev WellFormed (i : Instr) : Prop := i.wellFormed = true

end Sys2Proof
end

