-- ==== Sys2Proof/Decode.lean ====
section
/-! DEFINITION. The decoder, total on every operation word and every byte sequence, rejecting by name; after it the
encoder, the opcode table's match and mask, and the host's numbering of a table word. -/

namespace Sys2Proof

/-- Why a request is no instruction. -/
inductive DecodeError where
  /-- Selectors 0x0, 0xD, 0xE (30_encoding.md R86). -/
  | unassignedSelector (o : BitVec 4)
  /-- Bytes sent that are not nine (30_encoding.md R71, R79). -/
  | wrongLength (n : Nat)
  /-- The header differs from the magic header (30_encoding.md R71, R92 step 1). -/
  | headerMismatch
  /-- A command frame's length byte is not 0x09 (30_encoding.md R71, R72). -/
  | wrongLengthByte (l : Byte)
  /-- A command byte other than 0x82 and 0x83 in a command frame (30_encoding.md R80). -/
  | unassignedCommand (o : Byte)
  /-- The checksum fails, or a response is too short to have one (30_encoding.md R73, R92 steps 2 and 3). -/
  | checksumMismatch
  /-- A whole response followed by `n` further bytes: the frame is not the whole chunk (30_encoding.md R92 step 4). -/
  | trailingBytes (n : Nat)
deriving DecidableEq, Repr

/-- The selector `word[11:8]` (30_encoding.md R85). -/
def selector (w : PortWord) : BitVec 4 := w.extractLsb' 8 4

/-- The operand `word[7:0]` (30_encoding.md R85). -/
def operand (w : PortWord) : Byte := w.extractLsb' 0 8

/-- The operation an operation word selects; an operation without an operand ignores its bits (30_encoding.md R84 to R86). -/
def decodePort (w : PortWord) : Except DecodeError Instr :=
  match selector w with
  | 0x1#4 => .ok (.setBoard (operand w))
  | 0x2#4 => .ok (.setChan (operand w))
  | 0x3#4 => .ok .encUnlock
  | 0x4#4 => .ok .encStatus
  | 0x5#4 => .ok .txNext
  | 0x6#4 => .ok .rxStart
  | 0x7#4 => .ok (.rxByte (operand w))
  | 0x8#4 => .ok .rxEnd
  | 0x9#4 => .ok .rdResult
  | 0xA#4 => .ok (.rdField (operand w))
  | 0xB#4 => .ok .rdClass
  | 0xC#4 => .ok .rdStat
  | 0xF#4 => .ok .reset
  | o => .error (.unassignedSelector o)

/-- The command frame nine sent bytes are (30_encoding.md R71, R76, R77). -/
def decodeSent : List Byte → Except DecodeError Instr
  | [m0, m1, m2, m3, l, b, o, c, x] =>
    if [m0, m1, m2, m3] ≠ magic then .error .headerMismatch
    else if l ≠ cmdLenByte then .error (.wrongLengthByte l)
    else if x ≠ xorfold [m0, m1, m2, m3, l, b, o, c] then .error .checksumMismatch
    else if o = CommandKind.unlock.op then .ok (.unlock b c x)
    else if o = CommandKind.status.op then .ok (.status b c x)
    else .error (.unassignedCommand o)
  | s => .error (.wrongLength s.length)

/-- The response frame kind its echo selects (30_encoding.md R76). -/
def responseInstr (l b e s c k x : Byte) : Instr :=
  match cmdKind e with
  | .unlock => .rspUnlock l b s c k x
  | .status => .rspStatus l b s c k x
  | .other => .rspOther l b e s c k x

/-- The response frame a received chunk starts with, and the bytes after it (30_encoding.md R92). -/
def decodeChunk (s : List Byte) : Except DecodeError (Instr × List Byte) :=
  if !hdrMatch s then .error .headerMismatch
  else
    match s with
    | m0 :: m1 :: m2 :: m3 :: l :: b :: e :: st :: c :: k :: x :: rest =>
      if x ≠ xorfold [m0, m1, m2, m3, l, b, e, st, c, k] then .error .checksumMismatch
      else .ok (responseInstr l b e st c k x, rest)
    | _ => .error .checksumMismatch

/-- The response frame a received chunk is, whole (30_encoding.md R92). -/
def decodeReceived (s : List Byte) : Except DecodeError Instr :=
  match decodeChunk s with
  | .error e => .error e
  | .ok (i, []) => .ok i
  | .ok (_, b :: rest) => .error (.trailingBytes (b :: rest).length)

/-- The instruction a request is; the direction decides the format (30_encoding.md R79, R93). -/
def decode : Request → Except DecodeError Instr
  | .port w => decodePort w
  | .sent s => decodeSent s
  | .received s => decodeReceived s

/-- The operation word with this selector and operand (30_encoding.md R85). -/
def portWord (o : BitVec 4) (d : Byte) : PortWord := o ++ d

/-- The bytes of a command frame, its checksum byte as given (30_encoding.md R70). -/
def commandBytes (k : CommandKind) (b c x : Byte) : List Byte := commandBody k b c ++ [x]

/-- The bytes of a response frame, its checksum byte as given (30_encoding.md R74). -/
def responseBytes (l b e s c k x : Byte) : List Byte := responseBody (responseFields l b e s c k) ++ [x]

/-- The words of an instruction; the ignored operand of an operation without one is written 0x00 (30_encoding.md R70,
R74, R84, R85). -/
def encode : Instr → Request
  | .unlock b c x => .sent (commandBytes .unlock b c x)
  | .status b c x => .sent (commandBytes .status b c x)
  | .rspUnlock l b s c k x => .received (responseBytes l b CommandKind.unlock.op s c k x)
  | .rspStatus l b s c k x => .received (responseBytes l b CommandKind.status.op s c k x)
  | .rspOther l b e s c k x => .received (responseBytes l b e s c k x)
  | .setBoard d => .port (portWord 0x1 d)
  | .setChan d => .port (portWord 0x2 d)
  | .encUnlock => .port (portWord 0x3 0x00)
  | .encStatus => .port (portWord 0x4 0x00)
  | .txNext => .port (portWord 0x5 0x00)
  | .rxStart => .port (portWord 0x6 0x00)
  | .rxByte d => .port (portWord 0x7 d)
  | .rxEnd => .port (portWord 0x8 0x00)
  | .rdResult => .port (portWord 0x9 0x00)
  | .rdField f => .port (portWord 0xA f)
  | .rdClass => .port (portWord 0xB 0x00)
  | .rdStat => .port (portWord 0xC 0x00)
  | .reset => .port (portWord 0xF 0x00)

/-- A byte sequence matches a row's pattern: `(s AND mask) = match`, bytewise, over the row's length (30_encoding.md R77). -/
def maskMatch (pattern mask s : List Byte) : Bool :=
  s.length == mask.length && List.zipWith (· &&& ·) s mask == pattern

/-- The request matches the opcode table's `match` and `mask` of the instruction's row (30_encoding.md R77, R84). -/
def Instr.matchesRow (i : Instr) (r : Request) : Bool :=
  match i, r with
  | .unlock .., .sent s =>
    maskMatch [0x57, 0x4B, 0x4C, 0x59, 0x09, 0x00, 0x82, 0x00, 0x00]
      [0xFF, 0xFF, 0xFF, 0xFF, 0xFF, 0x00, 0xFF, 0x00, 0x00] s
  | .status .., .sent s =>
    maskMatch [0x57, 0x4B, 0x4C, 0x59, 0x09, 0x00, 0x83, 0x00, 0x00]
      [0xFF, 0xFF, 0xFF, 0xFF, 0xFF, 0x00, 0xFF, 0x00, 0x00] s
  | .rspUnlock .., .received s =>
    maskMatch [0x57, 0x4B, 0x4C, 0x59, 0x00, 0x00, 0x82, 0x00, 0x00, 0x00, 0x00]
      [0xFF, 0xFF, 0xFF, 0xFF, 0x00, 0x00, 0xFF, 0x00, 0x00, 0x00, 0x00] s
  | .rspStatus .., .received s =>
    maskMatch [0x57, 0x4B, 0x4C, 0x59, 0x00, 0x00, 0x83, 0x00, 0x00, 0x00, 0x00]
      [0xFF, 0xFF, 0xFF, 0xFF, 0x00, 0x00, 0xFF, 0x00, 0x00, 0x00, 0x00] s
  | .rspOther .., .received s =>
    maskMatch [0x57, 0x4B, 0x4C, 0x59, 0x00, 0x00, 0x00, 0x00, 0x00, 0x00, 0x00]
      [0xFF, 0xFF, 0xFF, 0xFF, 0x00, 0x00, 0x00, 0x00, 0x00, 0x00, 0x00] s
  | .setBoard _, .port w => w &&& 0xF00 == 0x100
  | .setChan _, .port w => w &&& 0xF00 == 0x200
  | .encUnlock, .port w => w &&& 0xF00 == 0x300
  | .encStatus, .port w => w &&& 0xF00 == 0x400
  | .txNext, .port w => w &&& 0xF00 == 0x500
  | .rxStart, .port w => w &&& 0xF00 == 0x600
  | .rxByte _, .port w => w &&& 0xF00 == 0x700
  | .rxEnd, .port w => w &&& 0xF00 == 0x800
  | .rdResult, .port w => w &&& 0xF00 == 0x900
  | .rdField _, .port w => w &&& 0xF00 == 0xA00
  | .rdClass, .port w => w &&& 0xF00 == 0xB00
  | .rdStat, .port w => w &&& 0xF00 == 0xC00
  | .reset, .port w => w &&& 0xF00 == 0xF00
  | _, _ => false

/-- The `n` bytes of a number, the least significant first. -/
def littleBytes (n w : Nat) : List Byte := (List.range n).map fun i => BitVec.ofNat 8 (w >>> (8 * i))

/-- The frame request of a row's bytes: 72 bits are sent, 88 bits are received (30_encoding.md R79). -/
def lineRequest (nbits : Nat) (s : List Byte) : Request :=
  if nbits = 88 then .received s else .sent s

/-- The request a numbered table word stands for. An operation word is the number itself. A frame is read with its first
byte least significant and, where that is no instruction, most significant as in 30_encoding.md R70 (DESIGN CHOICE, log 5). -/
def tableRequest (nbits w : Nat) : Request :=
  if nbits ≤ 16 then
    if w < 4096 then .port (BitVec.ofNat 12 w) else .sent (littleBytes 2 w)
  else
    let s := littleBytes (nbits / 8) w
    match decode (lineRequest nbits s), decode (lineRequest nbits s.reverse) with
    | .error _, .ok _ => lineRequest nbits s.reverse
    | _, _ => lineRequest nbits s

/-- The instruction the decoder reads from a numbered table word (the host's interface). -/
def decodeTableWord (nbits w : Nat) : Option Instr :=
  match decode (tableRequest nbits w) with
  | .ok i => some i
  | .error _ => none

end Sys2Proof
end

