-- ==== Sys2Proof/Machine/Frames.lean ====
section
/-! DEFINITION. The five frame kinds as instructions. A command frame is one the block sends: `ENC.k` and nine `TX.NEXT`
(41_tx_encode.md R121, R122, R128; log 3). A response frame is one the block receives as a chunk: `RX.START`, eleven
`RX.BYTE`, `RX.END` (43_rx_verify_parse.md R150, R160; log 4). -/

namespace Sys2Proof.Machine

/-- `UNLOCK`: the block sends this unlock frame (41_tx_encode.md R120, R121, R128). -/
def execUnlockFrame (b c x : Byte) (s : State) : Result := .next (sendFrame .unlock (commandBytes .unlock b c x) s)

/-- `STATUS`: the block sends this status frame (41_tx_encode.md R120, R122, R128). -/
def execStatusFrame (b c x : Byte) (s : State) : Result := .next (sendFrame .status (commandBytes .status b c x) s)

/-- `RSP.UNLOCK`: the block receives this response (43_rx_verify_parse.md R150, R160). -/
def execRspUnlock (l b st c k x : Byte) (s : State) : Result :=
  receiveChunk (responseBytes l b CommandKind.unlock.op st c k x) s

/-- `RSP.STATUS`: the block receives this response (43_rx_verify_parse.md R150, R160). -/
def execRspStatus (l b st c k x : Byte) (s : State) : Result :=
  receiveChunk (responseBytes l b CommandKind.status.op st c k x) s

/-- `RSP.OTHER`: the block receives this response (43_rx_verify_parse.md R150, R160). -/
def execRspOther (l b e st c k x : Byte) (s : State) : Result :=
  receiveChunk (responseBytes l b e st c k x) s

end Sys2Proof.Machine
end

