-- ==== Sys2Proof/Machine/Receive.lean ====
section
/-! DEFINITION. The RX unit's operations (43_rx_verify_parse.md). -/

namespace Sys2Proof.Machine

/-- `RX.START`, in either phase (43_rx_verify_parse.md R155). -/
def execRxStart (s : State) : Result := .next ((s.withRx RxUnit.started).reply .nothing)

/-- `RX.BYTE d`: ignored in phase `Closed` (43_rx_verify_parse.md R156, R157). -/
def execRxByte (d : Byte) (s : State) : Result :=
  match s.rx.phase with
  | .closed => .next (s.reply .nothing)
  | .opened => .next ((s.withRx (s.rx.accept s.params.rxChunk d)).reply .nothing)

/-- `RX.END`: in phase `Closed` it returns the held result and changes nothing (43_rx_verify_parse.md R158, R159). -/
def execRxEnd (s : State) : Result :=
  match s.rx.phase with
  | .closed => .next (s.reply (.result s.rx.result))
  | .opened => endChunk s

end Sys2Proof.Machine
end

