-- ==== Sys2Proof/Machine/System.lean ====
section
/-! DEFINITION. The identity, read and reset operations (45_system_ops.md) and `RD.CLASS` (44_response_classify.md). -/

namespace Sys2Proof.Machine

/-- `SETBOARD d` (45_system_ops.md R190). -/
def execSetBoard (d : Byte) (s : State) : Result :=
  .next ((s.withIdent { s.ident with board := some d }).reply .nothing)

/-- `SETCHAN d` (45_system_ops.md R191). -/
def execSetChan (d : Byte) (s : State) : Result :=
  .next ((s.withIdent { s.ident with chan := some d }).reply .nothing)

/-- `RD.RESULT` (45_system_ops.md R192). -/
def execRdResult (s : State) : Result := .next (s.reply (.result s.rx.result))

/-- `RD.FIELD f`: refused unless the result is `Ok` and `f` names a field (45_system_ops.md R193, 30_encoding.md R87). -/
def execRdField (f : Byte) (s : State) : Result :=
  match fieldOffset f with
  | none => .next s.refuse
  | some i =>
    if s.rx.result ≠ some .ok then .next s.refuse
    else
      match s.rx.cap.read i with
      | none => .fault .captureAbsent
      | some b => .next (s.reply (.byte b))

/-- `RD.CLASS`: refused unless the result is `Ok` and the identity is set (44_response_classify.md R186, R187). -/
def execRdClass (s : State) : Result :=
  match s.ident.pair with
  | none => .next s.refuse
  | some (b, c) =>
    if s.rx.result ≠ some .ok then .next s.refuse
    else
      match s.rx.parsed with
      | none => .fault .captureAbsent
      | some p => .next (s.reply (.classFlags (classFlags p b c)))

/-- `RD.STAT` (45_system_ops.md R194). -/
def execRdStat (s : State) : Result := .next (s.reply (.stat (statRecord s.tx s.rx)))

/-- `RESET`: every register of the block takes its reset value (45_system_ops.md R195, 70_reset_and_hazards.md R301). -/
def execReset (s : State) : Result := .next (s.resetBlock.reply .nothing)

end Sys2Proof.Machine
end

