-- ==== Sys2Proof/Machine/Transmit.lean ====
section
/-! DEFINITION. The TX unit's operations (41_tx_encode.md). -/

namespace Sys2Proof.Machine

/-- `ENC.UNLOCK` (41_tx_encode.md R121). -/
def execEncUnlock (s : State) : Result := .next (encodeCommand .unlock s)

/-- `ENC.STATUS` (41_tx_encode.md R122). -/
def execEncStatus (s : State) : Result := .next (encodeCommand .status s)

/-- `TX.NEXT`: the next byte, or `empty` when the TX unit is idle (41_tx_encode.md R125, R126). -/
def execTxNext (s : State) : Result :=
  match s.tx.next with
  | none => .next (s.reply .empty)
  | some (b, tx) => .next ((s.withTx tx).reply (.byte b))

end Sys2Proof.Machine
end

