-- ==== Sys2Proof/Machine/Dispatch.lean ====
section
/-! DEFINITION. One arm per instruction: each a direct call of its meaning. -/

namespace Sys2Proof.Machine

def exec (i : Instr) (s : State) : Host.Outcome State Fault Refusal :=
  match i with
  -- frame kinds (30_encoding.md R76)
  | .unlock b c x => Sys2Proof.Machine.execUnlockFrame b c x s
  | .status b c x => Sys2Proof.Machine.execStatusFrame b c x s
  | .rspUnlock l b st c k x => Sys2Proof.Machine.execRspUnlock l b st c k x s
  | .rspStatus l b st c k x => Sys2Proof.Machine.execRspStatus l b st c k x s
  | .rspOther l b e st c k x => Sys2Proof.Machine.execRspOther l b e st c k x s
  -- port operations (30_encoding.md R84)
  | .setBoard d => Sys2Proof.Machine.execSetBoard d s
  | .setChan d => Sys2Proof.Machine.execSetChan d s
  | .encUnlock => Sys2Proof.Machine.execEncUnlock s
  | .encStatus => Sys2Proof.Machine.execEncStatus s
  | .txNext => Sys2Proof.Machine.execTxNext s
  | .rxStart => Sys2Proof.Machine.execRxStart s
  | .rxByte d => Sys2Proof.Machine.execRxByte d s
  | .rxEnd => Sys2Proof.Machine.execRxEnd s
  | .rdResult => Sys2Proof.Machine.execRdResult s
  | .rdField f => Sys2Proof.Machine.execRdField f s
  | .rdClass => Sys2Proof.Machine.execRdClass s
  | .rdStat => Sys2Proof.Machine.execRdStat s
  | .reset => Sys2Proof.Machine.execReset s

end Sys2Proof.Machine
end

