-- ==== Sys2Proof/Machine/Fetch.lean ====
section
/-! DEFINITION. How the machine takes its next input. The block has no program counter and fetches nothing (10_state.md
R22, 70_reset_and_hazards.md R304): what runs next is what the environment issues next, the head of `inbox` (log 1). -/

namespace Sys2Proof.Machine

/-- The outputs of the step before are gone (log 1). -/
def State.quiet (s : State) : State := { s with answer := .nothing, rxDone := none, actions := [] }

/-- A request that is no instruction: an unassigned selector, or bytes the block cannot have composed, is refused; bytes
received that are no response frame are a chunk all the same and get their verdict (30_encoding.md R80, R83, R86, R92). -/
def undecoded (r : Request) (s : State) : Result :=
  match r with
  | .port _ => .next s.refuse
  | .sent _ => .next s.refuse
  | .received bytes => receiveChunk bytes s

/-- A request, decoded and run. -/
def runRequest (r : Request) (s : State) : Result :=
  match decode r with
  | .ok i => exec i s
  | .error _ => undecoded r s

/-- The machine's next step: a request runs whatever the controller's state (46_host_link_controller.md R200), an event is
handled whole (R202); with nothing to take, nothing happens (70_reset_and_hazards.md R304). -/
def takeInput (s : State) : Result :=
  match s.inbox with
  | [] => .next s.quiet
  | .request r :: rest => runRequest r { s.quiet with inbox := rest }
  | .event e :: rest => handleEvent e { s.quiet with inbox := rest }

/-- The request `r` is the next input. -/
def State.issue (s : State) (r : Request) : State := { s with inbox := .request r :: s.inbox }

end Sys2Proof.Machine
end

