-- ==== Sys2Proof/Machine/Step.lean ====
section
/-! DEFINITION. One step of the machine, and the host's way of placing an instruction where the next step takes it. -/

namespace Sys2Proof.Machine

/-- One step: one operation of the block or one handler of the controller (00_scope.md R8, 46_host_link_controller.md R202). -/
def step (s : State) : Host.Outcome State Fault Refusal := takeInput s

/-- `s` with the instruction of this table word as the next input (log 1, log 5). -/
def State.withFetchWord (s : State) (nbits w : Nat) : State := s.issue (tableRequest nbits w)

end Sys2Proof.Machine
end

