-- ==== Sys2Proof/Machine/Listing.lean ====
section
/-! DEFINITION. The spec's own way of writing operations down (30_encoding.md R89), and the operation sequences its
pseudo-operations stand for (R90; `verify(bytes)`, whose operations depend on an answer, stands in Pseudo.lean). -/

namespace Sys2Proof

/-- The row's mnemonic in spec/opcode_table.json. -/
def Instr.mnemonic : Instr → String
  | .unlock .. => "UNLOCK"
  | .status .. => "STATUS"
  | .rspUnlock .. => "RSP.UNLOCK"
  | .rspStatus .. => "RSP.STATUS"
  | .rspOther .. => "RSP.OTHER"
  | .setBoard _ => "SETBOARD"
  | .setChan _ => "SETCHAN"
  | .encUnlock => "ENC.UNLOCK"
  | .encStatus => "ENC.STATUS"
  | .txNext => "TX.NEXT"
  | .rxStart => "RX.START"
  | .rxByte _ => "RX.BYTE"
  | .rxEnd => "RX.END"
  | .rdResult => "RD.RESULT"
  | .rdField _ => "RD.FIELD"
  | .rdClass => "RD.CLASS"
  | .rdStat => "RD.STAT"
  | .reset => "RESET"

/-- One hexadecimal digit, in capitals. -/
def hexDigit (n : Nat) : String := (["0", "1", "2", "3", "4", "5", "6", "7", "8", "9", "A", "B", "C", "D", "E", "F"]).getD n ""

/-- A byte as two hexadecimal digits (00_scope.md R10). -/
def hexByte (b : Byte) : String := hexDigit (b.toNat / 16) ++ hexDigit (b.toNat % 16)

/-- An operation on one line, its operand, if any, as a hexadecimal byte (30_encoding.md R89). -/
def Instr.listing (i : Instr) : String :=
  match i with
  | .setBoard d | .setChan d | .rxByte d | .rdField d => i.mnemonic ++ " 0x" ++ hexByte d
  | _ => i.mnemonic

/-- `ENC.kind` as an instruction (30_encoding.md R84). -/
def CommandKind.encInstr : CommandKind → Instr
  | .unlock => .encUnlock
  | .status => .encStatus

/-- The block operations of `send(kind)`: `ENC.kind`, nine `TX.NEXT` (30_encoding.md R90). -/
def sendOps (k : CommandKind) : List Instr := k.encInstr :: List.replicate cmdLen .txNext

/-- The block operations of `receive(chunk)`: `RX.START`, one `RX.BYTE` per byte, `RX.END` (30_encoding.md R90). -/
def receiveOps (s : List Byte) : List Instr := .rxStart :: s.map .rxByte ++ [.rxEnd]

end Sys2Proof
end

