-- ==== Sys2Proof/Machine/Pseudo.lean ====
section
/-! DEFINITION. Lists of operations run one after another, and the one pseudo-operation whose operations depend on an
answer: the source's `verify(bytes)` (30_encoding.md R90). -/

namespace Sys2Proof.Machine

/-- What one operation shows: its answer and its event (00_scope.md R14). -/
abbrev Observation := Answer × Option Verdict

/-- A list of instructions run one after another: what each shows, and the state after; none if one stops. -/
def runOps : List Instr → State → Option (List Observation × State)
  | [], s => some ([], s)
  | i :: is, s =>
    match exec i s with
    | .next t =>
      match runOps is t with
      | some (o, u) => some ((t.answer, t.rxDone) :: o, u)
      | none => none
    | _ => none

/-- The operations `verify(bytes)` begins with: `receive(bytes)`, `RD.RESULT` (30_encoding.md R90). -/
def judgeOps (bytes : List Byte) : List Instr := receiveOps bytes ++ [.rdResult]

/-- What `verify(bytes)` issues when `RD.RESULT` has answered: `RD.FIELD 0..5` on `Ok`, nothing otherwise
(30_encoding.md R90). -/
def readsAfter : Answer → List Instr
  | .result (some .ok) => [.rdField 0, .rdField 1, .rdField 2, .rdField 3, .rdField 4, .rdField 5]
  | _ => []

/-- The source's `verify(bytes)`, run on the block (30_encoding.md R90). -/
def runVerify (bytes : List Byte) (s : State) : Option (List Observation × State) :=
  match runOps (judgeOps bytes) s with
  | none => none
  | some (o, t) =>
    match runOps (readsAfter t.answer) t with
    | none => none
    | some (o', u) => some (o ++ o', u)

end Sys2Proof.Machine
end

