-- ==== Sys2Proof/Safety.lean ====
section
/-! DEFINITION. What a good state and a safe run are, in the terms the statements use: the invariants of 10_state.md R27
and R37, the groups of 10_state.md R20, what a list of instructions gives and takes, what a read event is to the
controller. -/

namespace Sys2Proof.Machine

/-- The TX invariant (10_state.md R27). -/
def TxInv (tx : TxUnit) : Prop :=
  (tx.busy = false → tx.idx = 0 ∧ tx.xor = 0x00) ∧
  (tx.busy = true →
    (tx.cmd = 0x82 ∨ tx.cmd = 0x83) ∧
    tx.xor = xorfold ((magic ++ [0x09, tx.board, tx.cmd, tx.chan]).take tx.idx.val))

/-- The verdict a verification result is (43_rx_verify_parse.md R160). -/
def verdictOf : Except VerificationError ParsedResponse → Verdict
  | .ok _ => .ok
  | .error .headerMismatch => .headerMismatch
  | .error .checksumMismatch => .checksumMismatch

/-- The RX registers are what the bytes `s` of the current chunk make them (10_state.md R37). -/
def RxHistory (rxChunk : Nat) (s : List Byte) (rx : RxUnit) : Prop :=
  rx.cnt = min s.length rxChunk ∧
  (rx.hdrOk = true ↔ ∀ i, i < min s.length 4 → s[i]? = some (magicAt i)) ∧
  rx.xor = xorfold (s.take (respLen - 1)) ∧
  (∀ i, 4 ≤ i → i ≤ 10 → rx.cap.read i = s[i]?) ∧
  (rx.phase = .opened → rx.result = none) ∧
  (∀ v, rx.result = some v → rx.phase = .closed ∧ v = verdictOf (verify s))

/-- The RX invariant (10_state.md R37). -/
def RxInv (rxChunk : Nat) (rx : RxUnit) : Prop := ∃ s, RxHistory rxChunk s rx

/-- The controller's invariant between its handlers: `Idle` has its port closed (46_host_link_controller.md R216), and an
open port has nothing left to retry (R225, R227). -/
def CtlInv (c : Controller) : Prop :=
  (c.link = .idle → c.portOpen = false) ∧
  (c.portOpen = true → c.retry = false)

/-- A good state: both units and the controller meet their invariants, and the parameters their constraint
(00_scope.md R5). -/
def GoodState (s : State) : Prop :=
  TxInv s.tx ∧ RxInv s.params.rxChunk s.rx ∧ CtlInv s.ctl ∧ respLen ≤ s.params.rxChunk

/-- `n` steps end in a state: none of them stops. -/
def RunsOn (n : Nat) (s : State) : Prop := ∃ t : State, Host.Core.run Sys2Proof.core n s = .next t

/-- The operations of the TX unit (10_state.md R20, 20_memory.md R61); a command frame sent is one. -/
def isTx : Instr → Bool
  | .encUnlock | .encStatus | .txNext | .unlock .. | .status .. => true
  | _ => false

/-- The operations of the RX unit (10_state.md R20, 20_memory.md R61); a response frame received is one. -/
def isRx : Instr → Bool
  | .rxStart | .rxByte _ | .rxEnd | .rspUnlock .. | .rspStatus .. | .rspOther .. => true
  | _ => false

/-- The operations that write the identity registers, `RESET` apart (10_state.md R20). -/
def isIdent : Instr → Bool
  | .setBoard _ | .setChan _ => true
  | _ => false

/-- The read operations (20_memory.md R55). -/
def isRead : Instr → Bool
  | .rdResult | .rdField _ | .rdClass | .rdStat => true
  | _ => false

/-- What the `TX.NEXT`s of a list of instructions answered, in order. -/
def txAnswers : List Instr → List Observation → List Answer
  | .txNext :: is, o :: os => o.1 :: txAnswers is os
  | _ :: is, _ :: os => txAnswers is os
  | _, _ => []

/-- The bytes a list of instructions gives by `RX.BYTE`, in order. -/
def rxBytes : List Instr → List Byte
  | [] => []
  | .rxByte d :: is => d :: rxBytes is
  | _ :: is => rxBytes is

/-- The block is the same but for what no operation can see: the latches of a TX unit that is idle, the captured bytes and
the running XOR of a chunk that is closed without an `Ok` (10_state.md R43, 93_implementation_defined.md U6, U7). -/
def SameVisible (s t : State) : Prop :=
  s.ident = t.ident ∧ s.params = t.params ∧
  (s.tx = t.tx ∨
    (s.tx.busy = false ∧ t.tx.busy = false ∧ s.tx.idx = t.tx.idx)) ∧
  (s.rx = t.rx ∨
    (s.rx.phase = .closed ∧ t.rx.phase = .closed ∧ s.rx.cnt = t.rx.cnt ∧ s.rx.hdrOk = t.rx.hdrOk ∧
      s.rx.result = t.rx.result ∧ s.rx.result ≠ some .ok))

/-- The next step handles the event `e`, and `rest` is what comes after it. -/
def Handles (s : State) (e : Event) (rest : List Input) : Prop :=
  s.inbox = .event e :: rest

/-- The Board Identity is `(b, c)` (10_state.md R28). -/
def HasIdentity (s : State) (b c : Byte) : Prop := s.ident.board = some b ∧ s.ident.chan = some c

/-- A sent frame's registers: the latches keep the frame's identity and kind, the TX unit is idle (41_tx_encode.md R128). -/
def sentTx (k : CommandKind) (b c : Byte) : TxUnit :=
  { busy := false, idx := 0, board := b, cmd := k.op, chan := c, xor := 0x00 }

/-- The read event `bytes` is one that link state's kind `k` answers with a soft retry, under the name `e`: it does not
verify, or its response is misclassified (46_host_link_controller.md R215, R220). -/
def BadRead (rxChunk : Nat) (b c : Byte) (k : CommandKind) (bytes : List Byte) (e : ErrorName) : Prop :=
  match verify (bytes.take rxChunk) with
  | .error .headerMismatch => e = .headerMismatch
  | .error .checksumMismatch => e = .checksumMismatch
  | .ok p =>
    match classify p b c k with
    | .addressMismatch => e = .addressMismatch
    | .commandMismatch => e = .commandMismatch
    | .statusError => e = .statusError
    | .unknownLockStatus => e = .unknownLockStatus
    | .accept _ => False

/-- The read event `bytes` is a response that link state's kind `k` accepts with lock class `q`
(46_host_link_controller.md R220). -/
def GoodRead (rxChunk : Nat) (b c : Byte) (k : CommandKind) (bytes : List Byte) (q : LockClass) : Prop :=
  ∃ p, verify (bytes.take rxChunk) = .ok p ∧ classify p b c k = .accept q

/-- `n` steps: what the controller did in each, and the state after; none if one stops. -/
def traceSteps : Nat → State → Option (List (List Action) × State)
  | 0, s => some ([], s)
  | n + 1, s =>
    match step s with
    | .next t =>
      match traceSteps n t with
      | some (a, u) => some (t.actions :: a, u)
      | none => none
    | _ => none

end Sys2Proof.Machine
end

