-- ==== Sys2Proof/Certificates/Slice0/Obligations.lean ====
section
/-! DEFINITION. The statements for the provers: what the spec's rules say the codec, the block and the controller do. -/

open Sys2Proof Sys2Proof.Machine

/-! ## Encoding -/

/-- Decoding the words of any well-formed instruction gives it back, every operand at every value (30_encoding.md R77, R84,
R85). -/
def Obligations.DecodeInvertsEncode : Prop :=
  ∀ i : Instr, WellFormed i → decode (encode i) = .ok i

/-- What the decoder gives is well-formed, and encodes back to the request but for the ignored operand bits of an operation
without an operand, of which there are nine (30_encoding.md R77, R85). -/
def Obligations.EncodeInvertsDecode : Prop :=
  ∀ (r : Request) (i : Instr), decode r = .ok i →
    WellFormed i ∧
    match r with
    | .port w =>
      encode i = .port w ∨
        (i ∈ [.encUnlock, .encStatus, .txNext, .rxStart, .rxEnd, .rdResult, .rdClass, .rdStat, .reset] ∧
          encode i = .port (portWord (selector w) 0x00))
    | .sent s => encode i = .sent s
    | .received s => encode i = .received s

/-- The selector alone chooses the operation; an operation without an operand ignores the operand bits; 0x0, 0xD and 0xE
select none (30_encoding.md R84, R85, R86). -/
def Obligations.SelectorChoosesOperation : Prop :=
  ∀ d : Byte,
    decode (.port (0x1#4 ++ d)) = .ok (.setBoard d) ∧
    decode (.port (0x2#4 ++ d)) = .ok (.setChan d) ∧
    decode (.port (0x3#4 ++ d)) = .ok .encUnlock ∧
    decode (.port (0x4#4 ++ d)) = .ok .encStatus ∧
    decode (.port (0x5#4 ++ d)) = .ok .txNext ∧
    decode (.port (0x6#4 ++ d)) = .ok .rxStart ∧
    decode (.port (0x7#4 ++ d)) = .ok (.rxByte d) ∧
    decode (.port (0x8#4 ++ d)) = .ok .rxEnd ∧
    decode (.port (0x9#4 ++ d)) = .ok .rdResult ∧
    decode (.port (0xA#4 ++ d)) = .ok (.rdField d) ∧
    decode (.port (0xB#4 ++ d)) = .ok .rdClass ∧
    decode (.port (0xC#4 ++ d)) = .ok .rdStat ∧
    decode (.port (0xF#4 ++ d)) = .ok .reset ∧
    decode (.port (0x0#4 ++ d)) = .error (.unassignedSelector 0x0) ∧
    decode (.port (0xD#4 ++ d)) = .error (.unassignedSelector 0xD) ∧
    decode (.port (0xE#4 ++ d)) = .error (.unassignedSelector 0xE)

/-- A few words written out from the spec's encodings decode to what they stand for (30_encoding.md R71, R76, R92). -/
def Obligations.WrittenWordsDecode : Prop :=
  decode (.sent [0x57, 0x4B, 0x4C, 0x59, 0x09, 0x01, 0x82, 0x01, 0x82]) = .ok (.unlock 0x01 0x01 0x82) ∧
  decode (.sent [0x57, 0x4B, 0x4C, 0x59, 0x09, 0x12, 0x83, 0x34, 0xA5]) = .ok (.status 0x12 0x34 0xA5) ∧
  decode (.sent [0x57, 0x4B, 0x4C, 0x59, 0x09, 0x01, 0x82, 0x01, 0x83]) = .error .checksumMismatch ∧
  decode (.received [0x57, 0x4B, 0x4C, 0x59, 0x0B, 0x01, 0x84, 0x00, 0x01, 0x00, 0x86]) =
    .ok (.rspOther 0x0B 0x01 0x84 0x00 0x01 0x00 0x86) ∧
  decode (.port 0xA05) = .ok (.rdField 0x05)

/-! ## The checksum unit -/

/-- `xorfold`: its two defining equations, its corner cases, the concatenation law and what follows from it
(40_checksum.md R100, R107). -/
def Obligations.XorfoldLaws : Prop :=
  xorfold [] = 0x00 ∧
  (∀ (s : List Byte) (b : Byte), xorfold (s ++ [b]) = xorfold s ^^^ b) ∧
  (∀ b : Byte, xorfold [b] = b ∧ xorfold [b, b] = 0x00) ∧
  (∀ a b : List Byte, xorfold (a ++ b) = xorfold a ^^^ xorfold b) ∧
  (∀ a b : List Byte, a.Perm b → xorfold a = xorfold b) ∧
  (∀ s : List Byte, xorfold (s ++ [xorfold s]) = 0x00)

/-- A change of one byte of a frame that passes the checksum test is detected, and on a verified response it is reported by
the offset it hits (40_checksum.md R108, 43_rx_verify_parse.md R161). -/
def Obligations.SingleByteErrorsDetected : Prop :=
  (∀ (f g : List Byte) (i : Nat), checksumOk f = true → g.length = f.length →
    (∀ j, j ≠ i → g[j]? = f[j]?) → g[i]? ≠ f[i]? → checksumOk g = false) ∧
  (∀ (f g : List Byte) (i : Nat) (p : ParsedResponse), f.length = 11 → verify f = .ok p → g.length = 11 →
    (∀ j, j ≠ i → g[j]? = f[j]?) → g[i]? ≠ f[i]? →
    verify g = .error (if i ≤ 3 then .headerMismatch else .checksumMismatch))

/-- A changed frame passes the checksum test exactly when the differences cancel, and then verifies if the header is intact
(40_checksum.md R105, R109). -/
def Obligations.CancellingErrorsPass : Prop :=
  (∀ f : List Byte, f ≠ [] → (checksumOk f = true ↔ xorfold f = 0x00)) ∧
  (∀ f g : List Byte, checksumOk f = true → g.length = f.length →
    (checksumOk g = true ↔ xorfold (List.zipWith (· ^^^ ·) f g) = 0x00)) ∧
  (∀ (f g : List Byte) (p : ParsedResponse), f.length = 11 → verify f = .ok p → g.length = 11 →
    g.take 4 = f.take 4 → xorfold (List.zipWith (· ^^^ ·) f g) = 0x00 → verify g = .ok (parse g))

/-! ## The functional layer -/

/-- The nine bytes of a command frame, and its checksum in closed form (41_tx_encode.md R120, R129). -/
def Obligations.CommandFrameBytes : Prop :=
  ∀ (k : CommandKind) (b c : Byte),
    encodeFrame k b c = [0x57, 0x4B, 0x4C, 0x59, 0x09, b, k.op, c, b ^^^ k.op ^^^ c] ∧
    (encodeFrame k b c)[8]? = some (xorfold ((encodeFrame k b c).take 8)) ∧
    CommandKind.unlock.op = 0x82 ∧ CommandKind.status.op = 0x83 ∧
    (b = c → (encodeFrame k b c)[8]? = some k.op) ∧
    (∀ x y, (encodeFrame .unlock b c)[8]? = some x → (encodeFrame .status b c)[8]? = some y → x ^^^ y = 0x01)

/-- `encode` is injective and its values are exactly the well-formed command frames (41_tx_encode.md R130,
30_encoding.md R71). -/
def Obligations.EncodeIsInjectiveOntoCommandFrames : Prop :=
  (∀ (k k' : CommandKind) (b b' c c' : Byte), encodeFrame k b c = encodeFrame k' b' c' → k = k' ∧ b = b' ∧ c = c') ∧
  (∀ s : List Byte,
    (s.length = 9 ∧ s.take 4 = [0x57, 0x4B, 0x4C, 0x59] ∧ s[4]? = some 0x09 ∧ (s[6]? = some 0x82 ∨ s[6]? = some 0x83) ∧
      s[8]? = some (xorfold (s.take 8))) ↔
    ∃ k b c, s = encodeFrame k b c ∧ s[6]? = some k.op ∧ s[5]? = some b ∧ s[7]? = some c)

/-- `verifyCmd` gives back what `encode` was given (43_rx_verify_parse.md R166). -/
def Obligations.CommandRoundTrip : Prop :=
  ∀ (k : CommandKind) (b c : Byte),
    verifyCmd (encodeFrame k b c) = .ok { len := 0x09, board := b, cmd := k.op, chan := c }

/-- `verify` gives back the six fields of a response whatever follows it, and every verified sequence of eleven bytes is
such a response (43_rx_verify_parse.md R167). -/
def Obligations.ResponseRoundTrip : Prop :=
  (∀ (p : ParsedResponse) (t : List Byte), verify (mkResponse p ++ t) = .ok p) ∧
  (∀ p : ParsedResponse, mkResponse p =
    [0x57, 0x4B, 0x4C, 0x59, p.len, p.board, p.cmd, p.status, p.chan, p.lock,
      xorfold [0x57, 0x4B, 0x4C, 0x59, p.len, p.board, p.cmd, p.status, p.chan, p.lock]]) ∧
  (∀ (f : List Byte) (p : ParsedResponse), f.length = 11 → verify f = .ok p → f = mkResponse p)

/-- `verify` by its four clauses, the header first, short sequences included (43_rx_verify_parse.md R150, R153). -/
def Obligations.VerifyByClauses : Prop :=
  ∀ s : List Byte,
    (s.length < 4 ∨ s.take 4 ≠ [0x57, 0x4B, 0x4C, 0x59] → verify s = .error .headerMismatch) ∧
    (s.take 4 = [0x57, 0x4B, 0x4C, 0x59] → s.length < 11 → verify s = .error .checksumMismatch) ∧
    (s.take 4 = [0x57, 0x4B, 0x4C, 0x59] → 11 ≤ s.length → s[10]? ≠ some (xorfold (s.take 10)) →
      verify s = .error .checksumMismatch) ∧
    (s.take 4 = [0x57, 0x4B, 0x4C, 0x59] → s[10]? = some (xorfold (s.take 10)) →
      ∃ p, verify s = .ok p ∧ s[4]? = some p.len ∧ s[5]? = some p.board ∧ s[6]? = some p.cmd ∧
        s[7]? = some p.status ∧ s[8]? = some p.chan ∧ s[9]? = some p.lock)

/-- Bytes beyond the response take no part in verification (43_rx_verify_parse.md R154). -/
def Obligations.VerifyIgnoresTrailingBytes : Prop :=
  ∀ s : List Byte, 11 ≤ s.length → verify s = verify (s.take 11)

/-- The classifier's byte tests (44_response_classify.md R180 to R183). -/
def Obligations.ClassifierByteTests : Prop :=
  (∀ e : Byte, (cmdKind e = .unlock ↔ e = 0x82) ∧ (cmdKind e = .status ↔ e = 0x83) ∧
    (cmdKind e = .other ↔ e ≠ 0x82 ∧ e ≠ 0x83)) ∧
  (∀ st : Byte, statusOk st = true ↔ st = 0x00) ∧
  (∀ k : Byte, (lockClass k = .unlocked ↔ k = 0x00) ∧ (lockClass k = .locked ↔ k = 0x01) ∧
    (lockClass k = .invalid ↔ k ≠ 0x00 ∧ k ≠ 0x01)) ∧
  (∀ (p : ParsedResponse) (b c : Byte), addrMatch p b c = true ↔ p.board = b ∧ p.chan = c)

/-- `classify` names the first test that fails, accepts exactly the right responses, and is what the host computes from the
four values of `RD.CLASS` (44_response_classify.md R185, R186). -/
def Obligations.ClassifyNamesFirstFailure : Prop :=
  ∀ (p : ParsedResponse) (b c : Byte) (k : CommandKind),
    (classify p b c k = .addressMismatch ↔ ¬ (p.board = b ∧ p.chan = c)) ∧
    (classify p b c k = .commandMismatch ↔ p.board = b ∧ p.chan = c ∧ p.cmd ≠ k.op) ∧
    (classify p b c k = .statusError ↔ p.board = b ∧ p.chan = c ∧ p.cmd = k.op ∧ p.status ≠ 0x00) ∧
    (classify p b c k = .unknownLockStatus ↔
      p.board = b ∧ p.chan = c ∧ p.cmd = k.op ∧ p.status = 0x00 ∧ p.lock ≠ 0x00 ∧ p.lock ≠ 0x01) ∧
    (∀ q, classify p b c k = .accept q ↔
      p.board = b ∧ p.chan = c ∧ p.cmd = k.op ∧ p.status = 0x00 ∧
        ((q = .unlocked ∧ p.lock = 0x00) ∨ (q = .locked ∧ p.lock = 0x01))) ∧
    classifyFlags (classFlags p b c) k = classify p b c k

/-! ## The operations of the block: each gives its next state, whole -/

/-- `SETBOARD` and `SETCHAN` write their identity register and nothing else (45_system_ops.md R190, R191). -/
def Obligations.SetIdentityWritesOneRegister : Prop :=
  ∀ (d : Byte) (s : State),
    decode (.port (0x1#4 ++ d)) = .ok (.setBoard d) ∧
    decode (.port (0x2#4 ++ d)) = .ok (.setChan d) ∧
    exec (.setBoard d) s =
      .next { s with ident := { s.ident with board := some d }, answer := .nothing, rxDone := none } ∧
    exec (.setChan d) s =
      .next { s with ident := { s.ident with chan := some d }, answer := .nothing, rxDone := none }

/-- `ENC.k` with the identity set latches the frame, whether or not a frame is being sent (41_tx_encode.md R123, R127). -/
def Obligations.EncLatchesTheIdentity : Prop :=
  ∀ (b c : Byte) (s : State), HasIdentity s b c →
    exec .encUnlock s =
      .next { s with tx := { busy := true, idx := 0, board := b, cmd := 0x82, chan := c, xor := 0x00 },
                     answer := .accepted, rxDone := none } ∧
    exec .encStatus s =
      .next { s with tx := { busy := true, idx := 0, board := b, cmd := 0x83, chan := c, xor := 0x00 },
                     answer := .accepted, rxDone := none }

/-- `ENC.k` with an identity register unset is refused and changes no register (41_tx_encode.md R124). -/
def Obligations.EncRefusedWithoutIdentity : Prop :=
  ∀ s : State, s.ident.board = none ∨ s.ident.chan = none →
    exec .encUnlock s = .next { s with answer := .refused, rxDone := none } ∧
    exec .encStatus s = .next { s with answer := .refused, rxDone := none }

/-- `TX.NEXT` while busy returns the byte at its offset and goes on to the next; the ninth leaves the unit idle
(41_tx_encode.md R125). -/
def Obligations.TxNextDeliversTheFrame : Prop :=
  (∀ d : Byte, decode (.port (0x5#4 ++ d)) = .ok .txNext) ∧
  ∀ s : State, s.tx.busy = true →
    (∀ b : Byte, s.tx.idx.val ≤ 7 →
      [0x57, 0x4B, 0x4C, 0x59, 0x09, s.tx.board, s.tx.cmd, s.tx.chan][s.tx.idx.val]? = some b →
      exec .txNext s =
        .next { s with tx := { s.tx with xor := s.tx.xor ^^^ b, idx := s.tx.idx + 1 },
                       answer := .byte b, rxDone := none }) ∧
    (s.tx.idx.val = 8 →
      exec .txNext s =
        .next { s with tx := { s.tx with xor := 0x00, idx := 0, busy := false },
                       answer := .byte s.tx.xor, rxDone := none })

/-- `TX.NEXT` while idle answers `empty` and changes no register (41_tx_encode.md R126). -/
def Obligations.TxNextEmptyWhenIdle : Prop :=
  ∀ s : State, s.tx.busy = false → exec .txNext s = .next { s with answer := .empty, rxDone := none }

/-- `RX.START` opens a chunk from any state (43_rx_verify_parse.md R155). -/
def Obligations.RxStartOpensAChunk : Prop :=
  (∀ d : Byte, decode (.port (0x6#4 ++ d)) = .ok .rxStart) ∧
  ∀ s : State, exec .rxStart s =
    .next { s with rx := { phase := .opened, cnt := 0, hdrOk := true, xor := 0x00,
                           cap := { c4 := none, c5 := none, c6 := none, c7 := none, c8 := none, c9 := none, c10 := none },
                           result := none },
                   answer := .nothing, rxDone := none }

/-- `RX.BYTE` in an open chunk: dropped when the chunk is full, else compared, captured, accumulated and counted by its
offset (43_rx_verify_parse.md R156). -/
def Obligations.RxByteByOffset : Prop :=
  (∀ d : Byte, decode (.port (0x7#4 ++ d)) = .ok (.rxByte d)) ∧
  ∀ (d : Byte) (s : State), s.rx.phase = .opened →
    (s.rx.cnt = s.params.rxChunk → exec (.rxByte d) s = .next { s with answer := .nothing, rxDone := none }) ∧
    (s.rx.cnt ≠ s.params.rxChunk →
      ∃ cap : Captures,
        exec (.rxByte d) s =
          .next { s with
            rx := { s.rx with
              hdrOk := if s.rx.cnt ≤ 3 then
                  s.rx.hdrOk && decide ([0x57, 0x4B, 0x4C, (0x59 : Byte)][s.rx.cnt]? = some d)
                else s.rx.hdrOk
              xor := if s.rx.cnt ≤ 9 then s.rx.xor ^^^ d else s.rx.xor
              cnt := s.rx.cnt + 1
              cap := cap }
            answer := .nothing, rxDone := none } ∧
        ∀ j, 4 ≤ j → j ≤ 10 → cap.read j = if j = s.rx.cnt then some d else s.rx.cap.read j)

/-- `RX.BYTE` outside a chunk is ignored (43_rx_verify_parse.md R157). -/
def Obligations.RxByteIgnoredWhenClosed : Prop :=
  ∀ (d : Byte) (s : State), s.rx.phase = .closed →
    exec (.rxByte d) s = .next { s with answer := .nothing, rxDone := none }

/-- `RX.END` of an open chunk: the first test that fails gives the verdict, which closes the chunk, is held and is
signalled (43_rx_verify_parse.md R158). -/
def Obligations.RxEndGivesTheVerdict : Prop :=
  (∀ d : Byte, decode (.port (0x8#4 ++ d)) = .ok .rxEnd) ∧
  ∀ (v : Verdict) (s : State), s.rx.phase = .opened →
    (((s.rx.cnt < 4 ∨ s.rx.hdrOk = false) ∧ v = .headerMismatch) ∨
      (4 ≤ s.rx.cnt ∧ s.rx.hdrOk = true ∧ s.rx.cnt < 11 ∧ v = .checksumMismatch) ∨
      (11 ≤ s.rx.cnt ∧ s.rx.hdrOk = true ∧
        ∃ x, s.rx.cap.c10 = some x ∧ ((x ≠ s.rx.xor ∧ v = .checksumMismatch) ∨ (x = s.rx.xor ∧ v = .ok)))) →
    exec .rxEnd s =
      .next { s with rx := { s.rx with result := some v, phase := .closed },
                     answer := .result (some v), rxDone := some v }

/-- `RX.END` outside a chunk returns the held result and does nothing else (43_rx_verify_parse.md R159). -/
def Obligations.RxEndIgnoredWhenClosed : Prop :=
  ∀ s : State, s.rx.phase = .closed →
    exec .rxEnd s = .next { s with answer := .result s.rx.result, rxDone := none }

/-- `RD.RESULT` and `RD.STAT` return what they read in every state and change nothing; the codes and the packed form of
their answers (45_system_ops.md R192, R194). -/
def Obligations.ResultAndStatRead : Prop :=
  (∀ d : Byte, decode (.port (0x9#4 ++ d)) = .ok .rdResult ∧ decode (.port (0xC#4 ++ d)) = .ok .rdStat) ∧
  (resultCode none = 0 ∧ resultCode (some .ok) = 1 ∧ resultCode (some .headerMismatch) = 2 ∧
    resultCode (some .checksumMismatch) = 3) ∧
  (∀ r : StatRecord, r.packed =
    (if r.txBusy then 1 else 0) + r.txIdx.val <<< 1 + (if r.rxOpen then 1 else 0) <<< 5 +
      (if r.hdrDet then 1 else 0) <<< 6 + r.rxCnt <<< 7) ∧
  ∀ s : State,
    exec .rdResult s = .next { s with answer := .result s.rx.result, rxDone := none } ∧
    exec .rdStat s =
      .next { s with answer := .stat { txBusy := s.tx.busy, txIdx := s.tx.idx, rxOpen := decide (s.rx.phase = .opened),
                                       hdrDet := decide (4 ≤ s.rx.cnt ∧ s.rx.hdrOk = true), rxCnt := s.rx.cnt },
                     rxDone := none }

/-- `RD.FIELD` returns the captured byte its selector names after an `Ok`, and is refused otherwise
(45_system_ops.md R193, 30_encoding.md R87). -/
def Obligations.FieldReadOnlyAfterOk : Prop :=
  ∀ (f : Byte) (s : State),
    decode (.port (0xA#4 ++ f)) = .ok (.rdField f) ∧
    (∀ b, s.rx.result = some .ok → f.toNat ≤ 5 →
      [s.rx.cap.c4, s.rx.cap.c5, s.rx.cap.c6, s.rx.cap.c7, s.rx.cap.c8, s.rx.cap.c9][f.toNat]? = some (some b) →
      exec (.rdField f) s = .next { s with answer := .byte b, rxDone := none }) ∧
    (s.rx.result ≠ some .ok ∨ 5 < f.toNat →
      exec (.rdField f) s = .next { s with answer := .refused, rxDone := none })

/-- `RD.CLASS` returns the four tests of the parsed response against the identity as it is now, and is refused without an
`Ok` or an identity; the packed form of its answer, and what the host makes of it (44_response_classify.md R186, R187). -/
def Obligations.ClassReadOnlyAfterOk : Prop :=
  (∀ d : Byte, decode (.port (0xB#4 ++ d)) = .ok .rdClass) ∧
  (∀ f : ClassFlags, packedClass f =
    (if f.addrMatch then 1 else 0) + (if f.statusOk then 1 else 0) <<< 1 +
      (match f.cmdKind with | .other => 0 | .unlock => 1 | .status => 2) <<< 2 +
      (match f.lockClass with | .unlocked => 0 | .locked => 1 | .invalid => 2) <<< 4) ∧
  (∀ (f : ClassFlags) (k : CommandKind), classifyFlags f k =
    if f.addrMatch = false then .addressMismatch
    else if f.cmdKind ≠ (match k with | .unlock => .unlock | .status => .status) then .commandMismatch
    else if f.statusOk = false then .statusError
    else if f.lockClass = .invalid then .unknownLockStatus
    else .accept f.lockClass) ∧
  ∀ s : State,
    (∀ (p : ParsedResponse) (b c : Byte), s.rx.result = some .ok → HasIdentity s b c →
      s.rx.cap.c4 = some p.len → s.rx.cap.c5 = some p.board → s.rx.cap.c6 = some p.cmd → s.rx.cap.c7 = some p.status →
      s.rx.cap.c8 = some p.chan → s.rx.cap.c9 = some p.lock →
      exec .rdClass s =
        .next { s with answer := .classFlags { addrMatch := decide (p.board = b ∧ p.chan = c),
                                               statusOk := decide (p.status = 0x00),
                                               cmdKind := if p.cmd = 0x82 then .unlock
                                                 else if p.cmd = 0x83 then .status else .other,
                                               lockClass := if p.lock = 0x00 then .unlocked
                                                 else if p.lock = 0x01 then .locked else .invalid },
                       rxDone := none }) ∧
    (s.rx.result ≠ some .ok ∨ s.ident.board = none ∨ s.ident.chan = none →
      exec .rdClass s = .next { s with answer := .refused, rxDone := none })

/-- `RESET` gives every register of the block its reset value and touches nothing else (45_system_ops.md R195). -/
def Obligations.ResetWritesTheBlock : Prop :=
  (∀ d : Byte, decode (.port (0xF#4 ++ d)) = .ok .reset) ∧
  ∀ s : State, exec .reset s =
    .next { s with
      ident := { board := none, chan := none }
      tx := { busy := false, idx := 0, board := 0x00, cmd := 0x00, chan := 0x00, xor := 0x00 }
      rx := { phase := .closed, cnt := 0, hdrOk := true, xor := 0x00,
              cap := { c4 := none, c5 := none, c6 := none, c7 := none, c8 := none, c9 := none, c10 := none },
              result := none }
      answer := .nothing, rxDone := none }

/-- The state after power-on: the block's registers and the environment's start (70_reset_and_hazards.md R301, R303). -/
def Obligations.PowerOnState : Prop :=
  State.reset.ident = { board := none, chan := none } ∧
  State.reset.tx = { busy := false, idx := 0, board := 0x00, cmd := 0x00, chan := 0x00, xor := 0x00 } ∧
  State.reset.rx = { phase := .closed, cnt := 0, hdrOk := true, xor := 0x00,
                     cap := { c4 := none, c5 := none, c6 := none, c7 := none, c8 := none, c9 := none, c10 := none },
                     result := none } ∧
  State.reset.rx.parsed = none ∧ State.reset.rx.hdrDet = false ∧
  (statRecord State.reset.tx State.reset.rx).packed = 0 ∧ resultCode State.reset.rx.result = 0 ∧
  State.reset.ctl.link = .idle ∧ State.reset.ctl.retry = false ∧ State.reset.ctl.portOpen = false ∧
  State.reset.ctl.pollTimers = 0 ∧ State.reset.ctl.reconnectTimers = 0

/-- The model's choice of what a command frame is as an instruction (log 3): with the identity the frame carries it is sent
whole and the TX unit is idle after it; in any other state, or with a wrong checksum, it is refused and changes no
register. -/
def Obligations.CommandFrameIsSent : Prop :=
  ∀ (b c x : Byte) (s : State),
    (HasIdentity s b c → x = b ^^^ 0x82 ^^^ c →
      exec (.unlock b c x) s =
        .next { s with tx := { busy := false, idx := 0, board := b, cmd := 0x82, chan := c, xor := 0x00 },
                       answer := .frame [0x57, 0x4B, 0x4C, 0x59, 0x09, b, 0x82, c, x], rxDone := none }) ∧
    (HasIdentity s b c → x = b ^^^ 0x83 ^^^ c →
      exec (.status b c x) s =
        .next { s with tx := { busy := false, idx := 0, board := b, cmd := 0x83, chan := c, xor := 0x00 },
                       answer := .frame [0x57, 0x4B, 0x4C, 0x59, 0x09, b, 0x83, c, x], rxDone := none }) ∧
    (¬ (HasIdentity s b c ∧ x = b ^^^ 0x82 ^^^ c) →
      exec (.unlock b c x) s = .next { s with answer := .refused, rxDone := none }) ∧
    (¬ (HasIdentity s b c ∧ x = b ^^^ 0x83 ^^^ c) →
      exec (.status b c x) s = .next { s with answer := .refused, rxDone := none })

/-- The model's choice of what a response frame is as an instruction (log 4): its eleven bytes are received as one chunk,
whatever the unit held before. -/
def Obligations.ResponseFrameIsReceived : Prop :=
  ∀ (l b e st c k x : Byte) (v : Verdict) (s : State), 11 ≤ s.params.rxChunk →
    v = (if x = xorfold [0x57, 0x4B, 0x4C, 0x59, l, b, e, st, c, k] then .ok else .checksumMismatch) →
    let t := Host.Outcome.next (φ := Fault) (ρ := Refusal)
      { s with rx := { phase := .closed, cnt := 11, hdrOk := true,
                       xor := xorfold [0x57, 0x4B, 0x4C, 0x59, l, b, e, st, c, k],
                       cap := { c4 := some l, c5 := some b, c6 := some e, c7 := some st, c8 := some c, c9 := some k,
                                c10 := some x },
                       result := some v },
               answer := .result (some v), rxDone := some v }
    (e = 0x82 → exec (.rspUnlock l b st c k x) s = t) ∧
    (e = 0x83 → exec (.rspStatus l b st c k x) s = t) ∧
    exec (.rspOther l b e st c k x) s = t

/-- The frame kinds do what the operations they stand for do one after another (30_encoding.md R90, log 3, log 4). -/
def Obligations.FramesRunTheirOperations : Prop :=
  (∀ (b c : Byte) (s : State), HasIdentity s b c →
    (∃ o t, runOps (sendOps .unlock) s = some (o, t) ∧
      o.map (·.1) = .accepted :: (encodeFrame .unlock b c).map .byte ∧
      exec (.unlock b c (b ^^^ 0x82 ^^^ c)) s = .next { t with answer := .frame (encodeFrame .unlock b c) }) ∧
    (∃ o t, runOps (sendOps .status) s = some (o, t) ∧
      o.map (·.1) = .accepted :: (encodeFrame .status b c).map .byte ∧
      exec (.status b c (b ^^^ 0x83 ^^^ c)) s = .next { t with answer := .frame (encodeFrame .status b c) })) ∧
  (∀ (l b e st c k x : Byte) (s : State), 11 ≤ s.params.rxChunk →
    ∃ o t, runOps (receiveOps (responseBytes l b e st c k x)) s = some (o, t) ∧
      exec (responseInstr l b e st c k x) s = .next t)

/-! ## The machine -/

/-- A step whose next input decodes to an instruction is that instruction, run after the input is taken and the outputs of
the step before are gone (log 1). -/
def Obligations.StepRunsTheDecodedInstruction : Prop :=
  ∀ (s : State) (r : Request) (rest : List Input) (i : Instr),
    s.inbox = .request r :: rest → decode r = .ok i →
    step s = exec i { s with inbox := rest, answer := .nothing, rxDone := none, actions := [] }

/-- An operation word with an unassigned selector is refused: it leaves the inbox, no register changes
(30_encoding.md R86). -/
def Obligations.UnassignedSelectorIsRefused : Prop :=
  ∀ (s : State) (w : PortWord) (rest : List Input),
    s.inbox = .request (.port w) :: rest → selector w = 0x0 ∨ selector w = 0xD ∨ selector w = 0xE →
    step s = .next { s with inbox := rest, answer := .refused, rxDone := none, actions := [] }

/-- The power-on state is a good state (10_state.md R27, R37). -/
def Obligations.GoodStateAtPowerOn : Prop := GoodState State.reset

/-- Every step keeps the invariants of the TX unit, the RX unit and the controller (10_state.md R27, R37). -/
def Obligations.StepKeepsGoodStates : Prop :=
  ∀ s t : State, GoodState s → step s = .next t → GoodState t

/-- In a good state every instruction completes (00_scope.md R13, 93_implementation_defined.md U5). -/
def Obligations.EveryInstructionCompletesInGoodStates : Prop :=
  ∀ (i : Instr) (s : State), GoodState s → ∃ t, exec i s = .next t

/-- From a good state the machine goes on for ever, whatever the environment does
(93_implementation_defined.md part 1, 46_host_link_controller.md R236). That every handler ends, a call failing where the
transport's answers have run out, is the model's choice (log 9). -/
def Obligations.GoodStatesNeverStop : Prop :=
  ∀ (s : State) (n : Nat), GoodState s → RunsOn n s

/-- No step changes the parameters of the instance (00_scope.md R5, R6, D28). -/
def Obligations.ParametersAreFixed : Prop :=
  ∀ s t : State, step s = .next t → t.params = s.params

/-- Each instruction writes the registers of one group at most, `RESET` apart, and none of the environment
(10_state.md R20, 20_memory.md R55, R61). -/
def Obligations.InstructionsStayInTheirGroup : Prop :=
  ∀ (i : Instr) (s t : State), exec i s = .next t →
    (t.ctl = s.ctl ∧ t.params = s.params ∧ t.actions = s.actions ∧ t.inbox = s.inbox ∧ t.replies = s.replies) ∧
    (isTx i = true → t.ident = s.ident ∧ t.rx = s.rx) ∧
    (isRx i = true → t.ident = s.ident ∧ t.tx = s.tx) ∧
    (isIdent i = true → t.tx = s.tx ∧ t.rx = s.rx) ∧
    (isRead i = true → t.ident = s.ident ∧ t.tx = s.tx ∧ t.rx = s.rx) ∧
    (isTx i = true ∨ isRx i = true ∨ isIdent i = true ∨ isRead i = true ∨ i = .reset)

/-- A TX operation and an RX operation give the same state and the same outputs in either order (20_memory.md R61). -/
def Obligations.TxAndRxCommute : Prop :=
  ∀ (i j : Instr) (s t : State) (a b : Observation), isTx i = true → isRx j = true →
    runOps [i, j] s = some ([a, b], t) →
    ∃ u, runOps [j, i] s = some ([b, a], u) ∧ u.ident = t.ident ∧ u.tx = t.tx ∧ u.rx = t.rx ∧ u.ctl = t.ctl ∧
      u.params = t.params

/-- `ENC.k` and then `TX.NEXT`s among any other operations but `ENC.*`, frames sent and `RESET` deliver exactly
`encode(k, b, c)`, then nothing; after nine the TX unit is idle (41_tx_encode.md R128). -/
def Obligations.TxDeliversEncode : Prop :=
  ∀ (k : CommandKind) (b c : Byte) (is : List Instr) (s : State), GoodState s → HasIdentity s b c →
    (∀ i ∈ is, i = .txNext ∨ (isTx i = false ∧ i ≠ .reset)) →
    ∃ o t, runOps (k.encInstr :: is) s = some ((.accepted, none) :: o, t) ∧
      txAnswers is o =
        ((encodeFrame k b c).map Answer.byte ++ List.replicate (is.count Instr.txNext) Answer.empty).take
          (is.count Instr.txNext) ∧
      (9 ≤ is.count Instr.txNext → t.tx.busy = false ∧ t.tx.idx = 0 ∧ t.tx.xor = 0x00)

/-- `RX.START`, `RX.BYTE`s among any other operations but RX operations and `RESET`, `RX.END` give exactly the verdict and
the fields of `verify` (43_rx_verify_parse.md R160). -/
def Obligations.RxAgreesWithVerify : Prop :=
  ∀ (is : List Instr) (s : State), GoodState s →
    (∀ i ∈ is, (∃ d, i = .rxByte d) ∨ (isRx i = false ∧ i ≠ .reset)) →
    ∃ o t, runOps (.rxStart :: is ++ [.rxEnd]) s = some (o, t) ∧
      t.answer = .result (some (verdictOf (verify (rxBytes is)))) ∧
      t.rxDone = some (verdictOf (verify (rxBytes is))) ∧
      t.rx.parsed = (verify (rxBytes is)).toOption

/-- The header detector agrees with `hdrMatch` (42_rx_header_detect.md R145). -/
def Obligations.HeaderDetectorAgrees : Prop :=
  ∀ (bytes : List Byte) (s : State), 4 ≤ s.params.rxChunk →
    ∃ o t, runOps (.rxStart :: bytes.map .rxByte) s = some (o, t) ∧ t.rx.hdrDet = hdrMatch bytes

/-- Receiving a response and reading it back gives its six fields, whatever follows it in the chunk; the source's
`verify(bytes)` reads them on an `Ok`, and on a failed chunk it stops at `RD.RESULT` and reads none
(30_encoding.md R90, 45_system_ops.md R192, R193). -/
def Obligations.ReceivedFieldsReadBack : Prop :=
  (∀ (p : ParsedResponse) (tail : List Byte) (s : State), 11 ≤ s.params.rxChunk →
    ∃ o t, runOps (receiveOps (mkResponse p ++ tail)) s = some (o, t) ∧
      runOps [.rdResult, .rdField 0, .rdField 1, .rdField 2, .rdField 3, .rdField 4, .rdField 5] t =
        some ([(.result (some .ok), none), (.byte p.len, none), (.byte p.board, none), (.byte p.cmd, none),
          (.byte p.status, none), (.byte p.chan, none), (.byte p.lock, none)],
          { t with answer := .byte p.lock, rxDone := none })) ∧
  (∀ (bytes : List Byte) (s : State), 11 ≤ s.params.rxChunk →
    ∃ o t, runOps (receiveOps bytes ++ [.rdResult]) s = some (o, t) ∧ o.length = bytes.length + 3 ∧
      t.answer = .result (some (verdictOf (verify bytes))) ∧
      match verify bytes with
      | .ok p =>
        runVerify bytes s =
          some (o ++ [(.byte p.len, none), (.byte p.board, none), (.byte p.cmd, none), (.byte p.status, none),
            (.byte p.chan, none), (.byte p.lock, none)], { t with answer := .byte p.lock, rxDone := none })
      | .error _ => runVerify bytes s = some (o, t))

/-- What is hidden stays hidden: states that differ only in the latches of an idle TX unit and in the captured bytes and
running XOR of a chunk closed without an `Ok` answer every list of instructions alike (10_state.md R43,
93_implementation_defined.md U6, U7). -/
def Obligations.HiddenRegistersStayHidden : Prop :=
  ∀ (is : List Instr) (s s' t : State) (o : List Observation), SameVisible s s' →
    runOps is s = some (o, t) → ∃ t', runOps is s' = some (o, t') ∧ SameVisible t t'

/-! ## The controller -/

/-- `unlock()` in `Idle` opens the port and sends the unlock frame, or arms the reconnect timer if the port does not open;
a send that fails there is a hard reconnect, and with the identity unset nothing is sent; elsewhere it does nothing
(46_host_link_controller.md R210, R212, R226, R227). -/
def Obligations.UnlockOpensAndSends : Prop :=
  ∀ (s : State) (b c : Byte) (rest : List Input) (rs : List TransportReply),
    Handles s .unlockCall rest →
    (s.ctl.link = .idle → HasIdentity s b c → s.replies = .succeeded :: .succeeded :: rs →
      step s = .next { s with
        tx := sentTx .unlock b c
        ctl := { s.ctl with link := .unlocking, retry := false, portOpen := true }
        actions := (if s.ctl.portOpen then [.closedPort] else []) ++ [.openedPort, .wrote (encodeFrame .unlock b c)]
        answer := .nothing, rxDone := none, inbox := rest, replies := rs }) ∧
    (s.ctl.link = .idle → HasIdentity s b c → s.replies = .succeeded :: .failed :: .failed :: rs →
      step s = .next { s with
        tx := sentTx .unlock b c
        ctl := { s.ctl with link := .unlocking, retry := true, portOpen := false,
                            reconnectTimers := s.ctl.reconnectTimers + 1 }
        actions := (if s.ctl.portOpen then [.closedPort] else []) ++
          [.openedPort, .recognised .transportWriteFailure, .linkError, .closedPort, .recognised .transportOpenFailure,
            .armedReconnect s.params.backoffMs]
        answer := .nothing, rxDone := none, inbox := rest, replies := rs }) ∧
    (s.ctl.link = .idle → s.ident.board = none ∨ s.ident.chan = none → s.replies = .succeeded :: rs →
      step s = .next { s with
        ctl := { s.ctl with link := .unlocking, retry := false, portOpen := true }
        actions := (if s.ctl.portOpen then [.closedPort] else []) ++ [.openedPort]
        answer := .nothing, rxDone := none, inbox := rest, replies := rs }) ∧
    (s.ctl.link = .idle → s.replies = .failed :: rs →
      step s = .next { s with
        ctl := { s.ctl with link := .unlocking, retry := true, portOpen := false,
                            reconnectTimers := s.ctl.reconnectTimers + 1 }
        actions := (if s.ctl.portOpen then [.closedPort] else []) ++
          [.recognised .transportOpenFailure, .armedReconnect s.params.backoffMs]
        answer := .nothing, rxDone := none, inbox := rest, replies := rs }) ∧
    (s.ctl.link ≠ .idle →
      step s = .next { s with answer := .nothing, rxDone := none, actions := [], inbox := rest })

/-- `poll()` sends the status frame at once from any link state; a failed write, and a write to a closed port, is a hard
reconnect, which sends it again if the port opens and else arms the reconnect timer; with the identity unset nothing is
sent and the port is left as it is (46_host_link_controller.md R210, R213, R226, R227). -/
def Obligations.PollSendsStatus : Prop :=
  ∀ (s : State) (b c : Byte) (rest : List Input) (rs : List TransportReply),
    Handles s .pollCall rest →
    (HasIdentity s b c → s.ctl.portOpen = true → s.replies = .succeeded :: rs →
      step s = .next { s with
        tx := sentTx .status b c
        ctl := { s.ctl with link := .polling }
        actions := [.wrote (encodeFrame .status b c)]
        answer := .nothing, rxDone := none, inbox := rest, replies := rs }) ∧
    (HasIdentity s b c → s.ctl.portOpen = true → s.replies = .failed :: .succeeded :: .succeeded :: rs →
      step s = .next { s with
        tx := sentTx .status b c
        ctl := { s.ctl with link := .polling, retry := false, portOpen := true }
        actions := [.recognised .transportWriteFailure, .linkError, .closedPort, .openedPort,
          .wrote (encodeFrame .status b c)]
        answer := .nothing, rxDone := none, inbox := rest, replies := rs }) ∧
    (HasIdentity s b c → s.ctl.portOpen = true → s.replies = .failed :: .failed :: rs →
      step s = .next { s with
        tx := sentTx .status b c
        ctl := { s.ctl with link := .polling, retry := true, portOpen := false,
                            reconnectTimers := s.ctl.reconnectTimers + 1 }
        actions := [.recognised .transportWriteFailure, .linkError, .closedPort, .recognised .transportOpenFailure,
          .armedReconnect s.params.backoffMs]
        answer := .nothing, rxDone := none, inbox := rest, replies := rs }) ∧
    (HasIdentity s b c → s.ctl.portOpen = false → s.replies = .succeeded :: .succeeded :: rs →
      step s = .next { s with
        tx := sentTx .status b c
        ctl := { s.ctl with link := .polling, retry := false, portOpen := true }
        actions := [.recognised .transportWriteFailure, .linkError, .openedPort, .wrote (encodeFrame .status b c)]
        answer := .nothing, rxDone := none, inbox := rest, replies := rs }) ∧
    (HasIdentity s b c → s.ctl.portOpen = false → s.replies = .failed :: rs →
      step s = .next { s with
        tx := sentTx .status b c
        ctl := { s.ctl with link := .polling, retry := true, reconnectTimers := s.ctl.reconnectTimers + 1 }
        actions := [.recognised .transportWriteFailure, .linkError, .recognised .transportOpenFailure,
          .armedReconnect s.params.backoffMs]
        answer := .nothing, rxDone := none, inbox := rest, replies := rs }) ∧
    (s.ident.board = none ∨ s.ident.chan = none →
      step s = .next { s with
        ctl := { s.ctl with link := .polling }
        actions := [], answer := .nothing, rxDone := none, inbox := rest })

/-- `setBoard(id)` and `setChannel(id)` are `SETBOARD id` and `SETCHAN id` (46_host_link_controller.md R214). -/
def Obligations.IdentityCallsWriteTheRegisters : Prop :=
  ∀ (s : State) (d : Byte) (rest : List Input),
    (Handles s (.setBoardCall d) rest →
      step s = .next { s with ident := { s.ident with board := some d }, answer := .nothing, rxDone := none,
                              actions := [], inbox := rest }) ∧
    (Handles s (.setChannelCall d) rest →
      step s = .next { s with ident := { s.ident with chan := some d }, answer := .nothing, rxDone := none,
                              actions := [], inbox := rest })

/-- An accepted response acts by the row of the link state and the lock class; the rows of `Polling` ask nothing of the
transport that is answered (46_host_link_controller.md R223, R224, R225). -/
def Obligations.AcceptedResponseActsByTheTable : Prop :=
  ∀ (s : State) (b c : Byte) (k : CommandKind) (bytes : List Byte) (q : LockClass) (rest : List Input)
    (rs : List TransportReply),
    Handles s (.dataAvailable bytes) rest → GoodState s → HasIdentity s b c → s.ctl.link.expectedKind = some k →
    s.ctl.portOpen = true → GoodRead s.params.rxChunk b c k bytes q →
    (s.ctl.link ≠ .polling → s.replies = .succeeded :: rs) →
    ∃ t, step s = .next t ∧ t.rxDone = some .ok ∧ t.inbox = rest ∧ t.ident = s.ident ∧
      match s.ctl.link, q with
      | .unlocking, .unlocked =>
        t.ctl = { s.ctl with link := .polling } ∧ t.actions = [.wrote (encodeFrame .status b c)] ∧ t.replies = rs ∧
          t.tx = sentTx .status b c
      | .unlocking, .locked =>
        t.ctl = { s.ctl with link := .waitingToUnlock } ∧ t.actions = [.wrote (encodeFrame .status b c)] ∧
          t.replies = rs ∧ t.tx = sentTx .status b c
      | .waitingToUnlock, .unlocked =>
        t.ctl = { s.ctl with link := .polling } ∧ t.actions = [.wrote (encodeFrame .status b c)] ∧ t.replies = rs ∧
          t.tx = sentTx .status b c
      | .waitingToUnlock, .locked =>
        t.ctl = s.ctl ∧ t.actions = [.wrote (encodeFrame .status b c)] ∧ t.replies = rs ∧ t.tx = sentTx .status b c
      | .polling, .unlocked =>
        t.ctl = { s.ctl with pollTimers := s.ctl.pollTimers + 1 } ∧ t.actions = [.armedPoll s.params.pollMs] ∧
          t.replies = s.replies ∧ t.tx = s.tx
      | .polling, .locked =>
        t.ctl = { s.ctl with link := .idle, portOpen := false } ∧ t.actions = [.locked, .closedPort] ∧
          t.replies = s.replies ∧ t.tx = s.tx
      | _, _ => False

/-- In a link state other than `Idle` a read event that is unverified or misclassified resends the command of that state
and changes nothing of the controller; if that write fails, it is a hard reconnect, which sends the frame again if the port
opens and else arms the reconnect timer (46_host_link_controller.md R210, R215, R220, R222, R226, R227,
60_exceptions.md R271). With the identity unset nothing is sent and the controller stays where it is (R210); that a verified
response is then not classified is the model's reading (log 12). -/
def Obligations.BadReadIsSoftRetried : Prop :=
  ∀ (s : State) (b c : Byte) (k : CommandKind) (bytes : List Byte) (e : ErrorName) (rest : List Input)
    (rs : List TransportReply),
    Handles s (.dataAvailable bytes) rest → GoodState s → s.ctl.link.expectedKind = some k → s.ctl.portOpen = true →
    (HasIdentity s b c → BadRead s.params.rxChunk b c k bytes e → s.replies = .succeeded :: rs →
      ∃ t, step s = .next t ∧ t.ctl = s.ctl ∧ t.tx = sentTx k b c ∧ t.ident = s.ident ∧ t.inbox = rest ∧
        t.replies = rs ∧ t.actions = [.recognised e, .wrote (encodeFrame k b c)]) ∧
    (HasIdentity s b c → BadRead s.params.rxChunk b c k bytes e → s.replies = .failed :: .succeeded :: .succeeded :: rs →
      ∃ t, step s = .next t ∧ t.ctl = { s.ctl with retry := false, portOpen := true } ∧ t.tx = sentTx k b c ∧
        t.ident = s.ident ∧ t.inbox = rest ∧ t.replies = rs ∧
        t.actions = [.recognised e, .recognised .transportWriteFailure, .linkError, .closedPort, .openedPort,
          .wrote (encodeFrame k b c)]) ∧
    (HasIdentity s b c → BadRead s.params.rxChunk b c k bytes e → s.replies = .failed :: .failed :: rs →
      ∃ t, step s = .next t ∧
        t.ctl = { s.ctl with retry := true, portOpen := false, reconnectTimers := s.ctl.reconnectTimers + 1 } ∧
        t.tx = sentTx k b c ∧ t.ident = s.ident ∧ t.inbox = rest ∧ t.replies = rs ∧
        t.actions = [.recognised e, .recognised .transportWriteFailure, .linkError, .closedPort,
          .recognised .transportOpenFailure, .armedReconnect s.params.backoffMs]) ∧
    (s.ident.board = none ∨ s.ident.chan = none →
      ∃ t, step s = .next t ∧ t.ctl = s.ctl ∧ t.tx = s.tx ∧ t.ident = s.ident ∧ t.inbox = rest ∧ t.replies = s.replies ∧
        t.rxDone = some (verdictOf (verify (bytes.take s.params.rxChunk))) ∧
        t.actions =
          match verify (bytes.take s.params.rxChunk) with
          | .error .headerMismatch => [.recognised .headerMismatch]
          | .error .checksumMismatch => [.recognised .checksumMismatch]
          | .ok _ => [])

/-- In `Idle` every read event is judged by the block and ignored by the controller (46_host_link_controller.md R216). -/
def Obligations.IdleIgnoresReadEvents : Prop :=
  ∀ (s : State) (bytes : List Byte) (rest : List Input), Handles s (.dataAvailable bytes) rest → GoodState s →
    s.ctl.link = .idle →
    ∃ t, step s = .next t ∧ t.ctl = s.ctl ∧ t.tx = s.tx ∧ t.ident = s.ident ∧ t.actions = [] ∧ t.replies = s.replies ∧
      t.inbox = rest ∧ t.rxDone = some (verdictOf (verify (bytes.take s.params.rxChunk)))

/-- `N` consecutive bad read events in a link state other than `Idle` cause exactly `N` sends of that state's frame, one
each, and leave the controller as it was (46_host_link_controller.md R233, 95_test_vectors.md SP4). -/
def Obligations.RetryIsIdempotent : Prop :=
  ∀ (s : State) (b c : Byte) (k : CommandKind) (reads : List (List Byte)) (rest : List Input)
    (rs : List TransportReply),
    GoodState s → HasIdentity s b c → s.ctl.link.expectedKind = some k → s.ctl.portOpen = true →
    s.inbox = reads.map (fun x => .event (.dataAvailable x)) ++ rest →
    (∀ x ∈ reads, ∃ e, BadRead s.params.rxChunk b c k x e) →
    s.replies = List.replicate reads.length .succeeded ++ rs →
    ∃ acts t, traceSteps reads.length s = some (acts, t) ∧ acts.length = reads.length ∧
      (∀ a ∈ acts, ∃ e, a = [.recognised e, .wrote (encodeFrame k b c)]) ∧
      t.ctl = s.ctl ∧ t.ident = s.ident ∧ t.inbox = rest ∧ t.replies = rs ∧ GoodState t

/-- `locked` is emitted by no step but one that handles a read event in `Polling`, once, and that step ends in `Idle` with
the port closed (46_host_link_controller.md R225, R231). That the step handles a data event, so that no raw `RX.END` leads
to `locked`, is the model's choice: requests of an unconstrained issuer and events are separate inputs, and the verdict a
request signals does not wake the controller (log 1). -/
def Obligations.LockedOnlyFromPolling : Prop :=
  ∀ s t : State, step s = .next t → Action.locked ∈ t.actions →
    (∃ bytes rest, Handles s (.dataAvailable bytes) rest) ∧ s.ctl.link = .polling ∧ t.ctl.link = .idle ∧
      t.ctl.portOpen = false ∧ t.actions.count .locked = 1

/-- `linkError` is emitted once for every failed write and once for a transport error outside `Idle`, and for nothing else
(46_host_link_controller.md R226, R230, R232). -/
def Obligations.LinkErrorPerHardReconnect : Prop :=
  ∀ s t : State, step s = .next t →
    t.actions.count .linkError =
      t.actions.count (.recognised .transportWriteFailure) +
        (if s.inbox.head? = some (.event .transportError) ∧ s.ctl.link ≠ .idle then 1 else 0)

/-- A transport error outside `Idle` closes the port and opens it again: the frame of the link state is sent again, or the
reconnect timer is armed; in `Idle` nothing happens (46_host_link_controller.md R226, R227, R230). -/
def Obligations.TransportErrorReconnects : Prop :=
  ∀ (s : State) (b c : Byte) (rest : List Input) (rs : List TransportReply), Handles s .transportError rest →
    (∀ k, s.ctl.link.expectedKind = some k → HasIdentity s b c → s.replies = .succeeded :: .succeeded :: rs →
      step s = .next { s with
        tx := sentTx k b c
        ctl := { s.ctl with retry := false, portOpen := true }
        actions := .linkError :: (if s.ctl.portOpen then [.closedPort] else []) ++
          [.openedPort, .wrote (encodeFrame k b c)]
        answer := .nothing, rxDone := none, inbox := rest, replies := rs }) ∧
    (s.ctl.link ≠ .idle → s.replies = .failed :: rs →
      step s = .next { s with
        ctl := { s.ctl with retry := true, portOpen := false, reconnectTimers := s.ctl.reconnectTimers + 1 }
        actions := .linkError :: (if s.ctl.portOpen then [.closedPort] else []) ++
          [.recognised .transportOpenFailure, .armedReconnect s.params.backoffMs]
        answer := .nothing, rxDone := none, inbox := rest, replies := rs }) ∧
    (s.ctl.link = .idle →
      step s = .next { s with answer := .nothing, rxDone := none, actions := [], inbox := rest })

/-- A pending timer that elapses acts only in the state it was armed for: the poll timer sends the status frame in
`Polling`, the reconnect timer asks for the port outside `Idle` while it is closed; a stale timer is used up and does
nothing (46_host_link_controller.md R228, R229). -/
def Obligations.TimersActOnlyWhenCurrent : Prop :=
  ∀ (s : State) (b c : Byte) (rest : List Input) (rs : List TransportReply),
    (Handles s .pollElapsed rest → 0 < s.ctl.pollTimers → s.ctl.link = .polling → HasIdentity s b c →
      s.ctl.portOpen = true → s.replies = .succeeded :: rs →
      step s = .next { s with
        tx := sentTx .status b c
        ctl := { s.ctl with pollTimers := s.ctl.pollTimers - 1 }
        actions := [.wrote (encodeFrame .status b c)]
        answer := .nothing, rxDone := none, inbox := rest, replies := rs }) ∧
    (Handles s .pollElapsed rest → 0 < s.ctl.pollTimers → s.ctl.link ≠ .polling →
      step s = .next { s with
        ctl := { s.ctl with pollTimers := s.ctl.pollTimers - 1 }
        actions := [], answer := .nothing, rxDone := none, inbox := rest }) ∧
    (∀ k, Handles s .reconnectElapsed rest → 0 < s.ctl.reconnectTimers → s.ctl.link.expectedKind = some k →
      s.ctl.portOpen = false → s.ctl.retry = true → HasIdentity s b c → s.replies = .succeeded :: .succeeded :: rs →
      step s = .next { s with
        tx := sentTx k b c
        ctl := { s.ctl with retry := false, portOpen := true, reconnectTimers := s.ctl.reconnectTimers - 1 }
        actions := [.openedPort, .wrote (encodeFrame k b c)]
        answer := .nothing, rxDone := none, inbox := rest, replies := rs }) ∧
    (Handles s .reconnectElapsed rest → 0 < s.ctl.reconnectTimers → s.ctl.link ≠ .idle → s.ctl.portOpen = false →
      s.replies = .failed :: rs →
      step s = .next { s with
        actions := [.recognised .transportOpenFailure, .armedReconnect s.params.backoffMs]
        answer := .nothing, rxDone := none, inbox := rest, replies := rs }) ∧
    (Handles s .reconnectElapsed rest → 0 < s.ctl.reconnectTimers → s.ctl.link = .idle ∨ s.ctl.portOpen = true →
      step s = .next { s with
        ctl := { s.ctl with reconnectTimers := s.ctl.reconnectTimers - 1 }
        actions := [], answer := .nothing, rxDone := none, inbox := rest })

/-- An event's handler is one step from every state, whatever answers the transport has ready: it comes to its end, the
events behind it wait, and it uses answers from the front only (46_host_link_controller.md R202). That the calls fail where
the answers have run out is the model's choice (log 9). -/
def Obligations.HandlersRunToCompletion : Prop :=
  ∀ (s : State) (e : Event) (rest : List Input), Handles s e rest →
    ∃ t, step s = .next t ∧ t.inbox = rest ∧ t.params = s.params ∧ t.answer = .nothing ∧ t.replies <:+ s.replies

/-- A request that is no instruction: bytes sent that the block cannot have composed are refused and change no register;
bytes received that are no response frame are judged as a chunk all the same, get their verdict, and leave the identity, the
TX unit and the environment as they are (30_encoding.md R80, R83, R92; the model's reading, log 16). -/
def Obligations.RequestsThatAreNoInstruction : Prop :=
  ∀ (s : State) (bytes : List Byte) (rest : List Input) (e : DecodeError),
    (s.inbox = .request (.sent bytes) :: rest → decode (.sent bytes) = .error e →
      step s = .next { s with inbox := rest, answer := .refused, rxDone := none, actions := [] }) ∧
    (s.inbox = .request (.received bytes) :: rest → decode (.received bytes) = .error e → 11 ≤ s.params.rxChunk →
      ∃ t, step s = .next t ∧ t.answer = .result (some (verdictOf (verify bytes))) ∧
        t.rxDone = some (verdictOf (verify bytes)) ∧ t.rx.result = some (verdictOf (verify bytes)) ∧
        t.rx.phase = .closed ∧ t.rx.parsed = (verify bytes).toOption ∧ t.ident = s.ident ∧ t.tx = s.tx ∧
        t.ctl = s.ctl ∧ t.params = s.params ∧ t.actions = [] ∧ t.inbox = rest ∧ t.replies = s.replies)
end

