-- ==== Sys2Proof/Laws/Checksum.lean ====
section
/-! SUPPORT. The definitional lemmas of the checksum unit and the codec. -/

namespace Sys2Proof

@[simp] theorem xorfold_nil : xorfold [] = 0x00 := rfl

@[simp] theorem xorfold_cons (b : Byte) (s : List Byte) : xorfold (b :: s) = b ^^^ xorfold s := rfl

@[simp] theorem csAcc_eq (acc b : Byte) : csAcc acc b = acc ^^^ b := rfl

@[simp] theorem csClr_eq : csClr = 0x00 := rfl

/-- `verify` succeeds exactly on verified responses, with the bytes at the fixed offsets (30_encoding.md R75). -/
theorem verify_eq_ok {s : List Byte} {p : ParsedResponse} :
    verify s = .ok p ↔ hdrMatch s = true ∧ respLen ≤ s.length ∧
      s[respLen - 1]? = some (xorfold (s.take (respLen - 1))) ∧ p = parse s := by
  unfold verify
  by_cases h1 : hdrMatch s = true
  · by_cases h2 : s.length < respLen
    · simp [h1, h2]
    · have h2' : respLen ≤ s.length := by omega
      by_cases h3 : s[respLen - 1]? = some (xorfold (s.take (respLen - 1)))
      · simp [h1, h2, h2', h3, eq_comm]
      · simp [h1, h2, h3]
  · simp [h1]

end Sys2Proof
end

