-- ==== Sys2Proof/Laws/State.lean ====
section
/-! SUPPORT. One lemma per field per update of the state, each true by rfl, so that no proof unfolds a record update. -/

namespace Sys2Proof.Machine

@[simp] theorem State.withIdent_ident (s : State) (d : Identity) : (s.withIdent d).ident = d := rfl
@[simp] theorem State.withIdent_tx (s : State) (d : Identity) : (s.withIdent d).tx = s.tx := rfl
@[simp] theorem State.withIdent_rx (s : State) (d : Identity) : (s.withIdent d).rx = s.rx := rfl
@[simp] theorem State.withIdent_ctl (s : State) (d : Identity) : (s.withIdent d).ctl = s.ctl := rfl
@[simp] theorem State.withIdent_params (s : State) (d : Identity) : (s.withIdent d).params = s.params := rfl
@[simp] theorem State.withIdent_answer (s : State) (d : Identity) : (s.withIdent d).answer = s.answer := rfl
@[simp] theorem State.withIdent_rxDone (s : State) (d : Identity) : (s.withIdent d).rxDone = s.rxDone := rfl
@[simp] theorem State.withIdent_actions (s : State) (d : Identity) : (s.withIdent d).actions = s.actions := rfl
@[simp] theorem State.withIdent_inbox (s : State) (d : Identity) : (s.withIdent d).inbox = s.inbox := rfl
@[simp] theorem State.withIdent_replies (s : State) (d : Identity) : (s.withIdent d).replies = s.replies := rfl

@[simp] theorem State.withTx_ident (s : State) (x : TxUnit) : (s.withTx x).ident = s.ident := rfl
@[simp] theorem State.withTx_tx (s : State) (x : TxUnit) : (s.withTx x).tx = x := rfl
@[simp] theorem State.withTx_rx (s : State) (x : TxUnit) : (s.withTx x).rx = s.rx := rfl
@[simp] theorem State.withTx_ctl (s : State) (x : TxUnit) : (s.withTx x).ctl = s.ctl := rfl
@[simp] theorem State.withTx_params (s : State) (x : TxUnit) : (s.withTx x).params = s.params := rfl
@[simp] theorem State.withTx_answer (s : State) (x : TxUnit) : (s.withTx x).answer = s.answer := rfl
@[simp] theorem State.withTx_rxDone (s : State) (x : TxUnit) : (s.withTx x).rxDone = s.rxDone := rfl
@[simp] theorem State.withTx_actions (s : State) (x : TxUnit) : (s.withTx x).actions = s.actions := rfl
@[simp] theorem State.withTx_inbox (s : State) (x : TxUnit) : (s.withTx x).inbox = s.inbox := rfl
@[simp] theorem State.withTx_replies (s : State) (x : TxUnit) : (s.withTx x).replies = s.replies := rfl

@[simp] theorem State.withRx_ident (s : State) (x : RxUnit) : (s.withRx x).ident = s.ident := rfl
@[simp] theorem State.withRx_tx (s : State) (x : RxUnit) : (s.withRx x).tx = s.tx := rfl
@[simp] theorem State.withRx_rx (s : State) (x : RxUnit) : (s.withRx x).rx = x := rfl
@[simp] theorem State.withRx_ctl (s : State) (x : RxUnit) : (s.withRx x).ctl = s.ctl := rfl
@[simp] theorem State.withRx_params (s : State) (x : RxUnit) : (s.withRx x).params = s.params := rfl
@[simp] theorem State.withRx_answer (s : State) (x : RxUnit) : (s.withRx x).answer = s.answer := rfl
@[simp] theorem State.withRx_rxDone (s : State) (x : RxUnit) : (s.withRx x).rxDone = s.rxDone := rfl
@[simp] theorem State.withRx_actions (s : State) (x : RxUnit) : (s.withRx x).actions = s.actions := rfl
@[simp] theorem State.withRx_inbox (s : State) (x : RxUnit) : (s.withRx x).inbox = s.inbox := rfl
@[simp] theorem State.withRx_replies (s : State) (x : RxUnit) : (s.withRx x).replies = s.replies := rfl

@[simp] theorem State.reply_ident (s : State) (a : Answer) : (s.reply a).ident = s.ident := rfl
@[simp] theorem State.reply_tx (s : State) (a : Answer) : (s.reply a).tx = s.tx := rfl
@[simp] theorem State.reply_rx (s : State) (a : Answer) : (s.reply a).rx = s.rx := rfl
@[simp] theorem State.reply_ctl (s : State) (a : Answer) : (s.reply a).ctl = s.ctl := rfl
@[simp] theorem State.reply_params (s : State) (a : Answer) : (s.reply a).params = s.params := rfl
@[simp] theorem State.reply_answer (s : State) (a : Answer) : (s.reply a).answer = a := rfl
@[simp] theorem State.reply_rxDone (s : State) (a : Answer) : (s.reply a).rxDone = none := rfl
@[simp] theorem State.reply_actions (s : State) (a : Answer) : (s.reply a).actions = s.actions := rfl
@[simp] theorem State.reply_inbox (s : State) (a : Answer) : (s.reply a).inbox = s.inbox := rfl
@[simp] theorem State.reply_replies (s : State) (a : Answer) : (s.reply a).replies = s.replies := rfl

@[simp] theorem State.answering_ident (s : State) (a : Answer) : (s.answering a).ident = s.ident := rfl
@[simp] theorem State.answering_tx (s : State) (a : Answer) : (s.answering a).tx = s.tx := rfl
@[simp] theorem State.answering_rx (s : State) (a : Answer) : (s.answering a).rx = s.rx := rfl
@[simp] theorem State.answering_ctl (s : State) (a : Answer) : (s.answering a).ctl = s.ctl := rfl
@[simp] theorem State.answering_params (s : State) (a : Answer) : (s.answering a).params = s.params := rfl
@[simp] theorem State.answering_answer (s : State) (a : Answer) : (s.answering a).answer = a := rfl
@[simp] theorem State.answering_rxDone (s : State) (a : Answer) : (s.answering a).rxDone = s.rxDone := rfl
@[simp] theorem State.answering_actions (s : State) (a : Answer) : (s.answering a).actions = s.actions := rfl
@[simp] theorem State.answering_inbox (s : State) (a : Answer) : (s.answering a).inbox = s.inbox := rfl
@[simp] theorem State.answering_replies (s : State) (a : Answer) : (s.answering a).replies = s.replies := rfl

@[simp] theorem State.refuse_ident (s : State) : (s.refuse).ident = s.ident := rfl
@[simp] theorem State.refuse_tx (s : State) : (s.refuse).tx = s.tx := rfl
@[simp] theorem State.refuse_rx (s : State) : (s.refuse).rx = s.rx := rfl
@[simp] theorem State.refuse_ctl (s : State) : (s.refuse).ctl = s.ctl := rfl
@[simp] theorem State.refuse_params (s : State) : (s.refuse).params = s.params := rfl
@[simp] theorem State.refuse_answer (s : State) : (s.refuse).answer = .refused := rfl
@[simp] theorem State.refuse_rxDone (s : State) : (s.refuse).rxDone = none := rfl
@[simp] theorem State.refuse_actions (s : State) : (s.refuse).actions = s.actions := rfl
@[simp] theorem State.refuse_inbox (s : State) : (s.refuse).inbox = s.inbox := rfl
@[simp] theorem State.refuse_replies (s : State) : (s.refuse).replies = s.replies := rfl

@[simp] theorem State.resetBlock_ident (s : State) : (s.resetBlock).ident = Identity.atReset := rfl
@[simp] theorem State.resetBlock_tx (s : State) : (s.resetBlock).tx = TxUnit.atReset := rfl
@[simp] theorem State.resetBlock_rx (s : State) : (s.resetBlock).rx = RxUnit.atReset := rfl
@[simp] theorem State.resetBlock_ctl (s : State) : (s.resetBlock).ctl = s.ctl := rfl
@[simp] theorem State.resetBlock_params (s : State) : (s.resetBlock).params = s.params := rfl
@[simp] theorem State.resetBlock_answer (s : State) : (s.resetBlock).answer = s.answer := rfl
@[simp] theorem State.resetBlock_rxDone (s : State) : (s.resetBlock).rxDone = s.rxDone := rfl
@[simp] theorem State.resetBlock_actions (s : State) : (s.resetBlock).actions = s.actions := rfl
@[simp] theorem State.resetBlock_inbox (s : State) : (s.resetBlock).inbox = s.inbox := rfl
@[simp] theorem State.resetBlock_replies (s : State) : (s.resetBlock).replies = s.replies := rfl

@[simp] theorem raiseVerdict_ident (s : State) (v : Verdict) : (raiseVerdict v s).ident = s.ident := rfl
@[simp] theorem raiseVerdict_tx (s : State) (v : Verdict) : (raiseVerdict v s).tx = s.tx := rfl
@[simp] theorem raiseVerdict_rx (s : State) (v : Verdict) : (raiseVerdict v s).rx = { s.rx with result := some v, phase := .closed } := rfl
@[simp] theorem raiseVerdict_ctl (s : State) (v : Verdict) : (raiseVerdict v s).ctl = s.ctl := rfl
@[simp] theorem raiseVerdict_params (s : State) (v : Verdict) : (raiseVerdict v s).params = s.params := rfl
@[simp] theorem raiseVerdict_answer (s : State) (v : Verdict) : (raiseVerdict v s).answer = s.answer := rfl
@[simp] theorem raiseVerdict_rxDone (s : State) (v : Verdict) : (raiseVerdict v s).rxDone = some v := rfl
@[simp] theorem raiseVerdict_actions (s : State) (v : Verdict) : (raiseVerdict v s).actions = s.actions := rfl
@[simp] theorem raiseVerdict_inbox (s : State) (v : Verdict) : (raiseVerdict v s).inbox = s.inbox := rfl
@[simp] theorem raiseVerdict_replies (s : State) (v : Verdict) : (raiseVerdict v s).replies = s.replies := rfl

@[simp] theorem State.withCtl_ident (s : State) (c : Controller) : (s.withCtl c).ident = s.ident := rfl
@[simp] theorem State.withCtl_tx (s : State) (c : Controller) : (s.withCtl c).tx = s.tx := rfl
@[simp] theorem State.withCtl_rx (s : State) (c : Controller) : (s.withCtl c).rx = s.rx := rfl
@[simp] theorem State.withCtl_ctl (s : State) (c : Controller) : (s.withCtl c).ctl = c := rfl
@[simp] theorem State.withCtl_params (s : State) (c : Controller) : (s.withCtl c).params = s.params := rfl
@[simp] theorem State.withCtl_answer (s : State) (c : Controller) : (s.withCtl c).answer = s.answer := rfl
@[simp] theorem State.withCtl_rxDone (s : State) (c : Controller) : (s.withCtl c).rxDone = s.rxDone := rfl
@[simp] theorem State.withCtl_actions (s : State) (c : Controller) : (s.withCtl c).actions = s.actions := rfl
@[simp] theorem State.withCtl_inbox (s : State) (c : Controller) : (s.withCtl c).inbox = s.inbox := rfl
@[simp] theorem State.withCtl_replies (s : State) (c : Controller) : (s.withCtl c).replies = s.replies := rfl

@[simp] theorem State.emit_ident (s : State) (a : Action) : (s.emit a).ident = s.ident := rfl
@[simp] theorem State.emit_tx (s : State) (a : Action) : (s.emit a).tx = s.tx := rfl
@[simp] theorem State.emit_rx (s : State) (a : Action) : (s.emit a).rx = s.rx := rfl
@[simp] theorem State.emit_ctl (s : State) (a : Action) : (s.emit a).ctl = s.ctl := rfl
@[simp] theorem State.emit_params (s : State) (a : Action) : (s.emit a).params = s.params := rfl
@[simp] theorem State.emit_answer (s : State) (a : Action) : (s.emit a).answer = s.answer := rfl
@[simp] theorem State.emit_rxDone (s : State) (a : Action) : (s.emit a).rxDone = s.rxDone := rfl
@[simp] theorem State.emit_actions (s : State) (a : Action) : (s.emit a).actions = s.actions ++ [a] := rfl
@[simp] theorem State.emit_inbox (s : State) (a : Action) : (s.emit a).inbox = s.inbox := rfl
@[simp] theorem State.emit_replies (s : State) (a : Action) : (s.emit a).replies = s.replies := rfl

@[simp] theorem State.setLink_ident (s : State) (l : LinkState) : (s.setLink l).ident = s.ident := rfl
@[simp] theorem State.setLink_tx (s : State) (l : LinkState) : (s.setLink l).tx = s.tx := rfl
@[simp] theorem State.setLink_rx (s : State) (l : LinkState) : (s.setLink l).rx = s.rx := rfl
@[simp] theorem State.setLink_ctl (s : State) (l : LinkState) : (s.setLink l).ctl = { s.ctl with link := l } := rfl
@[simp] theorem State.setLink_params (s : State) (l : LinkState) : (s.setLink l).params = s.params := rfl
@[simp] theorem State.setLink_answer (s : State) (l : LinkState) : (s.setLink l).answer = s.answer := rfl
@[simp] theorem State.setLink_rxDone (s : State) (l : LinkState) : (s.setLink l).rxDone = s.rxDone := rfl
@[simp] theorem State.setLink_actions (s : State) (l : LinkState) : (s.setLink l).actions = s.actions := rfl
@[simp] theorem State.setLink_inbox (s : State) (l : LinkState) : (s.setLink l).inbox = s.inbox := rfl
@[simp] theorem State.setLink_replies (s : State) (l : LinkState) : (s.setLink l).replies = s.replies := rfl

@[simp] theorem State.setRetry_ident (s : State) (b : Bool) : (s.setRetry b).ident = s.ident := rfl
@[simp] theorem State.setRetry_tx (s : State) (b : Bool) : (s.setRetry b).tx = s.tx := rfl
@[simp] theorem State.setRetry_rx (s : State) (b : Bool) : (s.setRetry b).rx = s.rx := rfl
@[simp] theorem State.setRetry_ctl (s : State) (b : Bool) : (s.setRetry b).ctl = { s.ctl with retry := b } := rfl
@[simp] theorem State.setRetry_params (s : State) (b : Bool) : (s.setRetry b).params = s.params := rfl
@[simp] theorem State.setRetry_answer (s : State) (b : Bool) : (s.setRetry b).answer = s.answer := rfl
@[simp] theorem State.setRetry_rxDone (s : State) (b : Bool) : (s.setRetry b).rxDone = s.rxDone := rfl
@[simp] theorem State.setRetry_actions (s : State) (b : Bool) : (s.setRetry b).actions = s.actions := rfl
@[simp] theorem State.setRetry_inbox (s : State) (b : Bool) : (s.setRetry b).inbox = s.inbox := rfl
@[simp] theorem State.setRetry_replies (s : State) (b : Bool) : (s.setRetry b).replies = s.replies := rfl

@[simp] theorem State.quiet_ident (s : State) : (s.quiet).ident = s.ident := rfl
@[simp] theorem State.quiet_tx (s : State) : (s.quiet).tx = s.tx := rfl
@[simp] theorem State.quiet_rx (s : State) : (s.quiet).rx = s.rx := rfl
@[simp] theorem State.quiet_ctl (s : State) : (s.quiet).ctl = s.ctl := rfl
@[simp] theorem State.quiet_params (s : State) : (s.quiet).params = s.params := rfl
@[simp] theorem State.quiet_answer (s : State) : (s.quiet).answer = .nothing := rfl
@[simp] theorem State.quiet_rxDone (s : State) : (s.quiet).rxDone = none := rfl
@[simp] theorem State.quiet_actions (s : State) : (s.quiet).actions = [] := rfl
@[simp] theorem State.quiet_inbox (s : State) : (s.quiet).inbox = s.inbox := rfl
@[simp] theorem State.quiet_replies (s : State) : (s.quiet).replies = s.replies := rfl

@[simp] theorem State.issue_ident (s : State) (r : Request) : (s.issue r).ident = s.ident := rfl
@[simp] theorem State.issue_tx (s : State) (r : Request) : (s.issue r).tx = s.tx := rfl
@[simp] theorem State.issue_rx (s : State) (r : Request) : (s.issue r).rx = s.rx := rfl
@[simp] theorem State.issue_ctl (s : State) (r : Request) : (s.issue r).ctl = s.ctl := rfl
@[simp] theorem State.issue_params (s : State) (r : Request) : (s.issue r).params = s.params := rfl
@[simp] theorem State.issue_answer (s : State) (r : Request) : (s.issue r).answer = s.answer := rfl
@[simp] theorem State.issue_rxDone (s : State) (r : Request) : (s.issue r).rxDone = s.rxDone := rfl
@[simp] theorem State.issue_actions (s : State) (r : Request) : (s.issue r).actions = s.actions := rfl
@[simp] theorem State.issue_inbox (s : State) (r : Request) : (s.issue r).inbox = .request r :: s.inbox := rfl
@[simp] theorem State.issue_replies (s : State) (r : Request) : (s.issue r).replies = s.replies := rfl

/-- Two states are equal when their fields are. -/
theorem State.eq_of_fields {s t : State} (h1 : s.ident = t.ident) (h2 : s.tx = t.tx) (h3 : s.rx = t.rx) (h4 : s.ctl = t.ctl)
    (h5 : s.params = t.params) (h6 : s.answer = t.answer) (h7 : s.rxDone = t.rxDone) (h8 : s.actions = t.actions)
    (h9 : s.inbox = t.inbox) (h10 : s.replies = t.replies) : s = t := by
  cases s; cases t; simp_all

end Sys2Proof.Machine
end

