-- ==== Sys2Proof/Laws/Ops.lean ====
section
/-! SUPPORT. One lemma per shared operation that says all it can do; later proofs cite these and unfold nothing. -/

namespace Sys2Proof.Machine

/-! The operands. -/

theorem Identity.pair_eq_some {d : Identity} {b c : Byte} :
    d.pair = some (b, c) ↔ d.board = some b ∧ d.chan = some c := by
  cases d with
  | mk x y => cases x <;> cases y <;> simp [Identity.pair]

theorem Identity.pair_eq_none {d : Identity} : d.pair = none ↔ d.board = none ∨ d.chan = none := by
  cases d with
  | mk x y => cases x <;> cases y <;> simp [Identity.pair]

/-- A capture register reads what was written to it (10_state.md R33). -/
theorem Captures.read_write_same (c : Captures) (i : Nat) (d : Byte) (h4 : 4 ≤ i) (h10 : i ≤ 10) :
    (c.write i d).read i = some d := by
  obtain rfl | rfl | rfl | rfl | rfl | rfl | rfl : i = 4 ∨ i = 5 ∨ i = 6 ∨ i = 7 ∨ i = 8 ∨ i = 9 ∨ i = 10 := by omega
  all_goals rfl

/-- The other capture registers keep their value. -/
theorem Captures.read_write_other (c : Captures) (i j : Nat) (d : Byte) (h : i ≠ j) :
    (c.write i d).read j = c.read j := by
  unfold Captures.write
  split <;> first | rfl | (unfold Captures.read; split <;> first | rfl | omega)

@[simp] theorem Captures.read_blank (i : Nat) : Captures.blank.read i = none := by
  unfold Captures.read; split <;> rfl

/-- The captured fields are there exactly when `cap[4]` to `cap[9]` hold bytes. -/
theorem Captures.fields_eq_some {c : Captures} {p : ParsedResponse} :
    c.fields = some p ↔ c.c4 = some p.len ∧ c.c5 = some p.board ∧ c.c6 = some p.cmd ∧ c.c7 = some p.status ∧
      c.c8 = some p.chan ∧ c.c9 = some p.lock := by
  unfold Captures.fields
  cases p
  constructor
  · intro h
    split at h
    · cases h; simp_all
    · cases h
  · rintro ⟨h4, h5, h6, h7, h8, h9⟩
    simp [h4, h5, h6, h7, h8, h9]

/-! The TX unit. -/

theorem TxUnit.next_eq_none {tx : TxUnit} : tx.next = none ↔ tx.busy = false := by
  unfold TxUnit.next; split <;> simp_all

theorem TxUnit.next_busy {tx : TxUnit} (h : tx.busy = true) :
    tx.next = some (tx.byteAt tx.idx.val, tx.advance) := by
  simp [TxUnit.next, h]

/-- What `TX.NEXT` leaves while a byte of the body goes out (41_tx_encode.md R125). -/
theorem TxUnit.advance_body {tx : TxUnit} (h : tx.idx.val ≤ 7) :
    tx.advance = { tx with xor := tx.xor ^^^ tx.byteAt tx.idx.val, idx := ⟨tx.idx.val + 1, by omega⟩ } := by
  simp [TxUnit.advance, h, csAcc]

/-- What the ninth `TX.NEXT` leaves (41_tx_encode.md R125). -/
theorem TxUnit.advance_last {tx : TxUnit} (h : ¬ tx.idx.val ≤ 7) :
    tx.advance = { tx with xor := 0x00, idx := 0, busy := false } := by
  simp [TxUnit.advance, h, csClr]

/-- Draining a latched frame gives its nine bytes and leaves the TX unit idle (41_tx_encode.md R128). -/
theorem TxUnit.drain_latch (k : CommandKind) (b c : Byte) :
    (TxUnit.latch k b c).drain cmdLen =
      (encodeFrame k b c, { busy := false, idx := 0, board := b, cmd := k.op, chan := c, xor := 0x00 }) := by
  simp [TxUnit.latch, cmdLen, TxUnit.drain, TxUnit.next, TxUnit.advance, TxUnit.byteAt, csAcc, csClr, encodeFrame,
    commandBody, magic, magicAt, xorfold, ← BitVec.xor_assoc]

/-- `ENC.k` is refused or latches the identity's frame; it writes no RX, identity or controller register. -/
theorem encodeCommand_cases (k : CommandKind) (s : State) :
    (s.ident.pair = none ∧ encodeCommand k s = s.refuse) ∨
    (∃ b c, s.ident.pair = some (b, c) ∧ encodeCommand k s = (s.withTx (TxUnit.latch k b c)).reply .accepted) := by
  unfold encodeCommand
  split
  · exact .inl ⟨‹_›, rfl⟩
  · exact .inr ⟨_, _, ‹_›, rfl⟩

/-- All that composing a frame can do. -/
theorem composeFrame_cases (k : CommandKind) (s : State) :
    (s.ident.pair = none ∧ composeFrame k s = none) ∨
    (∃ b c, s.ident.pair = some (b, c) ∧
      composeFrame k s = some (encodeFrame k b c,
        s.withTx { busy := false, idx := 0, board := b, cmd := k.op, chan := c, xor := 0x00 })) := by
  unfold composeFrame
  split
  · exact .inl ⟨‹_›, rfl⟩
  · exact .inr ⟨_, _, ‹_›, by simp [TxUnit.drain_latch]⟩

/-- All that sending a command frame can do. -/
theorem sendFrame_cases (k : CommandKind) (f : List Byte) (s : State) :
    sendFrame k f s = s.refuse ∨
    (∃ b c, s.ident.pair = some (b, c) ∧ f = encodeFrame k b c ∧
      sendFrame k f s = (s.withTx { busy := false, idx := 0, board := b, cmd := k.op, chan := c, xor := 0x00 }).reply
        (.frame f)) := by
  unfold sendFrame
  obtain ⟨-, h⟩ | ⟨b, c, hp, h⟩ := composeFrame_cases k s
  · left; simp [h]
  · by_cases hf : encodeFrame k b c = f
    · right; exact ⟨b, c, hp, hf.symm, by simp [h, hf]⟩
    · left; simp [h, hf]

/-! The RX unit. -/

theorem RxUnit.accept_full {rxChunk : Nat} {rx : RxUnit} (h : rx.cnt = rxChunk) (d : Byte) :
    rx.accept rxChunk d = rx := by
  simp [RxUnit.accept, h]

theorem RxUnit.accept_cnt {rxChunk : Nat} {rx : RxUnit} (h : rx.cnt ≠ rxChunk) (d : Byte) :
    (rx.accept rxChunk d).cnt = rx.cnt + 1 := by
  simp [RxUnit.accept, h]

@[simp] theorem RxUnit.accept_phase (rxChunk : Nat) (rx : RxUnit) (d : Byte) :
    (rx.accept rxChunk d).phase = rx.phase := by
  unfold RxUnit.accept; split <;> rfl

@[simp] theorem RxUnit.accept_result (rxChunk : Nat) (rx : RxUnit) (d : Byte) :
    (rx.accept rxChunk d).result = rx.result := by
  unfold RxUnit.accept; split <;> rfl

/-- The bytes of a chunk leave it open and without a verdict. -/
theorem RxUnit.foldl_accept_phase (rxChunk : Nat) (bytes : List Byte) (rx : RxUnit) :
    (bytes.foldl (RxUnit.accept rxChunk) rx).phase = rx.phase := by
  induction bytes generalizing rx with
  | nil => rfl
  | cons d bytes ih => simp [ih]

/-- `RX.END` on an open chunk: the verdict closes it, or the machine stops on an absent capture. -/
theorem endChunk_cases (s : State) :
    (s.rx.verdict = none ∧ endChunk s = .fault .captureAbsent) ∨
    (∃ v, s.rx.verdict = some v ∧ endChunk s = .next ((raiseVerdict v s).answering (.result (some v)))) := by
  unfold endChunk
  split
  · exact .inl ⟨‹_›, rfl⟩
  · exact .inr ⟨_, ‹_›, rfl⟩

/-- A meaning of the block writes no controller register, no parameter and no input. -/
theorem endChunk_outside {s t : State} (h : endChunk s = .next t) :
    t.ident = s.ident ∧ t.tx = s.tx ∧ t.ctl = s.ctl ∧ t.params = s.params ∧ t.actions = s.actions ∧
      t.inbox = s.inbox ∧ t.replies = s.replies := by
  obtain ⟨-, h'⟩ | ⟨v, -, h'⟩ := endChunk_cases s
  · simp [h'] at h
  · rw [h'] at h; cases h; simp

/-! The controller. -/

@[simp] theorem State.ends_fst (s : State) : s.ends.1 = s := rfl

@[simp] theorem State.ends_snd (s : State) : s.ends.2 = none := rfl

@[simp] theorem State.calls_fst (s : State) (c : TransportCall) : (s.calls c).1 = s := rfl

@[simp] theorem State.calls_snd (s : State) (c : TransportCall) : (s.calls c).2 = some c := rfl

/-- A handler that has ended uses no answer. -/
@[simp] theorem drive_ends (rs : List TransportReply) (s : State) : drive rs s.ends = { s with replies := rs } := by
  cases rs <;> rfl

/-- A call takes the first answer. -/
@[simp] theorem drive_calls (r : TransportReply) (rs : List TransportReply) (s : State) (c : TransportCall) :
    drive (r :: rs) (s.calls c) = drive rs (answered r c s) := rfl

/-- Where the answers have run out the calls fail, and the handler ends (log 9). -/
theorem drive_calls_nil (s : State) (c : TransportCall) :
    drive [] (s.calls c) = { drive [.failed, .failed] (s.calls c) with replies := [] } := by
  cases c <;> rfl

/-- What the handler's end and every answer to a call keep, running a handler to its end keeps. -/
theorem drive_keeps {P : Handling → Prop} {Q : State → Prop}
    (hend : ∀ (s : State) (rs : List TransportReply), P s.ends → Q { s with replies := rs })
    (hstep : ∀ (s : State) (r : TransportReply) (c : TransportCall), P (s.calls c) → P (answered r c s)) :
    ∀ (rs : List TransportReply) (h : Handling), P h → Q (drive rs h)
  | rs, (s, none), h => by
    rw [show drive rs (s, none) = { s with replies := rs } from drive_ends rs s]
    exact hend s rs h
  | [], (s, some .openPort), h => hend _ [] (hstep s .failed .openPort h)
  | [], (s, some (.write f)), h => hend _ [] (hstep _ .failed .openPort (hstep s .failed (.write f) h))
  | r :: rs, (s, some c), h => drive_keeps hend hstep rs _ (hstep s r c h)

/-- A handler uses the answers from the front: what is left is an end of the list. -/
theorem drive_replies_suffix : ∀ (rs : List TransportReply) (h : Handling), (drive rs h).replies <:+ rs
  | rs, (s, none) => by
    rw [show drive rs (s, none) = { s with replies := rs } from drive_ends rs s]
  | [], (_, some _) => List.nil_suffix
  | _ :: rs, (_, some _) => (drive_replies_suffix rs _).trans (List.suffix_cons _ rs)

/-- All that starting a send can do. -/
theorem startSend_cases (k : CommandKind) (s : State) :
    (s.ident.pair = none ∧ startSend k s = s.ends) ∨
    (∃ b c, s.ident.pair = some (b, c) ∧
      startSend k s =
        (let s' := s.withTx { busy := false, idx := 0, board := b, cmd := k.op, chan := c, xor := 0x00 }
         if s.ctl.portOpen then s'.calls (.write (encodeFrame k b c)) else failWrite s')) := by
  unfold startSend
  obtain ⟨h, h'⟩ | ⟨b, c, hp, h'⟩ := composeFrame_cases k s
  · left; simp [h, h']
  · right; exact ⟨b, c, hp, by rw [h']; rfl⟩

/-! The frame kinds, by the shared operation each is one call of. -/

theorem exec_unlock (b c x : Byte) (s : State) :
    exec (.unlock b c x) s = .next (sendFrame .unlock (commandBytes .unlock b c x) s) := rfl

theorem exec_status (b c x : Byte) (s : State) :
    exec (.status b c x) s = .next (sendFrame .status (commandBytes .status b c x) s) := rfl

theorem exec_rspUnlock (l b st c k x : Byte) (s : State) :
    exec (.rspUnlock l b st c k x) s = receiveChunk (responseBytes l b CommandKind.unlock.op st c k x) s := rfl

theorem exec_rspStatus (l b st c k x : Byte) (s : State) :
    exec (.rspStatus l b st c k x) s = receiveChunk (responseBytes l b CommandKind.status.op st c k x) s := rfl

theorem exec_rspOther (l b e st c k x : Byte) (s : State) :
    exec (.rspOther l b e st c k x) s = receiveChunk (responseBytes l b e st c k x) s := rfl

/-! The step. -/

/-- All that a step does, by the input it takes. -/
theorem step_cases (s : State) :
    (s.inbox = [] ∧ step s = .next s.quiet) ∨
    (∃ r rest, s.inbox = .request r :: rest ∧ step s = runRequest r { s.quiet with inbox := rest }) ∨
    (∃ e rest, s.inbox = .event e :: rest ∧ step s = handleEvent e { s.quiet with inbox := rest }) := by
  unfold step takeInput
  split
  · exact .inl ⟨‹_›, rfl⟩
  · exact .inr (.inl ⟨_, _, ‹_›, rfl⟩)
  · exact .inr (.inr ⟨_, _, ‹_›, rfl⟩)

end Sys2Proof.Machine
end

