-- ==== Sys2Proof/Laws/PerInstr.lean ====
section
/-! SUPPORT. The family EncodesIntoRow: every instruction is written as a word that matches the `match` and `mask` of its
row of the opcode table (30_encoding.md R77, R84), one lemma per constructor. -/

namespace Sys2Proof.Laws.EncodesIntoRow

/-- The words of `i` match its row. -/
def Statement (i : Instr) : Prop := i.matchesRow (encode i) = true

theorem unlock (b c x : Byte) : Statement (.unlock b c x) := by
  simp [Statement, encode, Instr.matchesRow, maskMatch, commandBytes, commandBody, magic, cmdLenByte, CommandKind.op]

theorem status (b c x : Byte) : Statement (.status b c x) := by
  simp [Statement, encode, Instr.matchesRow, maskMatch, commandBytes, commandBody, magic, cmdLenByte, CommandKind.op]

theorem rspUnlock (l b s c k x : Byte) : Statement (.rspUnlock l b s c k x) := by
  simp [Statement, encode, Instr.matchesRow, maskMatch, responseBytes, responseBody, responseFields, magic, CommandKind.op]

theorem rspStatus (l b s c k x : Byte) : Statement (.rspStatus l b s c k x) := by
  simp [Statement, encode, Instr.matchesRow, maskMatch, responseBytes, responseBody, responseFields, magic, CommandKind.op]

theorem rspOther (l b e s c k x : Byte) : Statement (.rspOther l b e s c k x) := by
  simp [Statement, encode, Instr.matchesRow, maskMatch, responseBytes, responseBody, responseFields, magic]

theorem setBoard (d : Byte) : Statement (.setBoard d) := by
  unfold Statement; revert d; decide

theorem setChan (d : Byte) : Statement (.setChan d) := by
  unfold Statement; revert d; decide

theorem encUnlock : Statement .encUnlock := by unfold Statement; decide

theorem encStatus : Statement .encStatus := by unfold Statement; decide

theorem txNext : Statement .txNext := by unfold Statement; decide

theorem rxStart : Statement .rxStart := by unfold Statement; decide

theorem rxByte (d : Byte) : Statement (.rxByte d) := by
  unfold Statement; revert d; decide

theorem rxEnd : Statement .rxEnd := by unfold Statement; decide

theorem rdResult : Statement .rdResult := by unfold Statement; decide

theorem rdField (f : Byte) : Statement (.rdField f) := by
  unfold Statement; revert f; decide

theorem rdClass : Statement .rdClass := by unfold Statement; decide

theorem rdStat : Statement .rdStat := by unfold Statement; decide

theorem reset : Statement .reset := by unfold Statement; decide

end Sys2Proof.Laws.EncodesIntoRow
end

