-- ==== Sys2Proof/Tests/Slice0.lean ====
section
/-! SUPPORT. Tests of one step each, their expected values from the spec's examples and vectors (95_test_vectors.md), and a
witness for every statement with hypotheses: a state and operands that meet them all. -/

namespace Sys2Proof.Tests

open Sys2Proof.Machine

/-! ## The states the tests are on -/

/-- The state an instruction gives, if it gives one. -/
def after (i : Instr) (s : State) : Option State :=
  match exec i s with
  | .next t => some t
  | _ => none

/-- The state a step gives, if it gives one. -/
def stepped (s : State) : Option State :=
  match step s with
  | .next t => some t
  | _ => none

/-- The response of 43_rx_verify_parse.md R158's example: echo 0x82, locked. -/
def goodBytes : List Byte := [0x57, 0x4B, 0x4C, 0x59, 0x0B, 0x01, 0x82, 0x00, 0x01, 0x01, 0x81]

/-- The response of 44_response_classify.md R185's example: echo 0x83, locked. -/
def lockedBytes : List Byte := [0x57, 0x4B, 0x4C, 0x59, 0x0B, 0x01, 0x83, 0x00, 0x01, 0x01, 0x80]

/-- The response of 40_checksum.md R105's example, its trailing byte wrong. -/
def badBytes : List Byte := [0x57, 0x4B, 0x4C, 0x59, 0x0B, 0x01, 0x82, 0x00, 0x01, 0x01, 0x80]

/-- The RX unit with `n` bytes of an open chunk that began with the header and the length byte 0x0B. -/
def openRx (n : Nat) (ok : Bool) : RxUnit :=
  { phase := .opened, cnt := n, hdrOk := ok, xor := 0x02, cap := { Captures.blank with c4 := some 0x0B }, result := none }

/-- The RX unit with all of `goodBytes` in, `x` as the received checksum. -/
def fullRx (x : Byte) : RxUnit :=
  { phase := .opened, cnt := 11, hdrOk := true, xor := 0x81, result := none,
    cap := { c4 := some 0x0B, c5 := some 0x01, c6 := some 0x82, c7 := some 0x00, c8 := some 0x01, c9 := some 0x01,
             c10 := some x } }

/-- The RX unit after `goodBytes`. -/
def okRx : RxUnit := { fullRx 0x81 with phase := .closed, result := some .ok }

/-- The RX unit after `badBytes`. -/
def failedRx : RxUnit := { fullRx 0x80 with phase := .closed, result := some .checksumMismatch }

/-- The TX unit of 41_tx_encode.md R125's example, at offset `i` with `x` accumulated. -/
def busyTx (i : Fin 9) (x : Byte) : TxUnit :=
  { busy := true, idx := i, board := 0x01, cmd := 0x82, chan := 0x01, xor := x }

/-- Identity (0x01, 0x01), an unlock frame sent, `goodBytes` received, the controller as given. -/
def atWork (c : Controller) : State :=
  { State.reset with ident := { board := some 0x01, chan := some 0x01 }, tx := sentTx .unlock 0x01 0x01, rx := okRx, ctl := c }

/-- A controller in link state `l`, the port open or not. -/
def linked (l : LinkState) (p : Bool) : Controller := { Controller.atStart with link := l, portOpen := p }

/-- `s` with one input and the transport's answers. -/
def given (s : State) (i : Input) (rs : List TransportReply) : State := { s with inbox := [i], replies := rs }

/-- The idle system at work: the block has sent and received, the link is `Idle`. -/
def idle : State := atWork (linked .idle false)

/-! ## Decoding: words written out from 30_encoding.md -/

/-- V127. -/
theorem test_decode_unlock :
    decode (.sent [0x57, 0x4B, 0x4C, 0x59, 0x09, 0x01, 0x82, 0x01, 0x82]) = .ok (.unlock 0x01 0x01 0x82) := by decide

/-- V128. -/
theorem test_decode_status :
    decode (.sent [0x57, 0x4B, 0x4C, 0x59, 0x09, 0x12, 0x83, 0x34, 0xA5]) = .ok (.status 0x12 0x34 0xA5) := by decide

/-- V129 to V131: nothing the block can have composed. -/
theorem test_decode_sent_refused :
    decode (.sent [0x57, 0x4B, 0x4C, 0x59, 0x09, 0x01, 0x84, 0x01, 0x84]) = .error (.unassignedCommand 0x84) ∧
    decode (.sent [0x57, 0x4B, 0x4C, 0x59, 0x08, 0x01, 0x82, 0x01, 0x83]) = .error (.wrongLengthByte 0x08) ∧
    decode (.sent [0x57, 0x4B, 0x4C, 0x59, 0x09, 0x01, 0x82, 0x01, 0x83]) = .error .checksumMismatch ∧
    decode (.sent [0x57, 0x4B, 0x4C, 0x58, 0x09, 0x01, 0x82, 0x01, 0x83]) = .error .headerMismatch ∧
    decode (.sent [0x57]) = .error (.wrongLength 1) := by decide

/-- V132. -/
theorem test_decode_rspUnlock :
    decode (.received [0x57, 0x4B, 0x4C, 0x59, 0x0B, 0x01, 0x82, 0x00, 0x01, 0x01, 0x81]) =
      .ok (.rspUnlock 0x0B 0x01 0x00 0x01 0x01 0x81) := by decide

/-- V133, V135. -/
theorem test_decode_rspStatus :
    decode (.received [0x57, 0x4B, 0x4C, 0x59, 0x0B, 0x01, 0x83, 0x00, 0x01, 0x00, 0x81]) =
      .ok (.rspStatus 0x0B 0x01 0x00 0x01 0x00 0x81) ∧
    decode (.received [0x57, 0x4B, 0x4C, 0x59, 0x00, 0xFF, 0x83, 0x7F, 0x00, 0x02, 0x08]) =
      .ok (.rspStatus 0x00 0xFF 0x7F 0x00 0x02 0x08) := by decide

/-- V134. -/
theorem test_decode_rspOther :
    decode (.received [0x57, 0x4B, 0x4C, 0x59, 0x0B, 0x01, 0x84, 0x00, 0x01, 0x00, 0x86]) =
      .ok (.rspOther 0x0B 0x01 0x84 0x00 0x01 0x00 0x86) := by decide

/-- V136, V137, and 30_encoding.md R92 steps 1, 2 and 4. -/
theorem test_decode_received_refused :
    decode (.received badBytes) = .error .checksumMismatch ∧
    decode (.received [0x57, 0x4B, 0x4C, 0x58, 0x0B, 0x01, 0x82, 0x00, 0x01, 0x01, 0x81]) = .error .headerMismatch ∧
    decode (.received [0x57, 0x4B, 0x4C]) = .error .headerMismatch ∧
    decode (.received (goodBytes.take 10)) = .error .checksumMismatch ∧
    decode (.received (goodBytes ++ [0x57])) = .error (.trailingBytes 1) := by decide

/-- V138 to V146. -/
theorem test_decode_port_driving :
    decode (.port 0x1FF) = .ok (.setBoard 0xFF) ∧ decode (.port 0x200) = .ok (.setChan 0x00) ∧
    decode (.port 0x300) = .ok .encUnlock ∧ decode (.port 0x3A7) = .ok .encUnlock ∧
    decode (.port 0x400) = .ok .encStatus ∧ decode (.port 0x500) = .ok .txNext ∧ decode (.port 0x600) = .ok .rxStart ∧
    decode (.port 0x757) = .ok (.rxByte 0x57) ∧ decode (.port 0x800) = .ok .rxEnd := by decide

/-- V147 to V152. -/
theorem test_decode_port_reading :
    decode (.port 0x900) = .ok .rdResult ∧ decode (.port 0xA05) = .ok (.rdField 0x05) ∧
    decode (.port 0xA06) = .ok (.rdField 0x06) ∧ decode (.port 0xB00) = .ok .rdClass ∧
    decode (.port 0xC00) = .ok .rdStat ∧ decode (.port 0xF00) = .ok .reset := by decide

/-- V153 to V155. -/
theorem test_decode_unassigned :
    decode (.port 0x000) = .error (.unassignedSelector 0x0) ∧ decode (.port 0xD12) = .error (.unassignedSelector 0xD) ∧
    decode (.port 0xEFF) = .error (.unassignedSelector 0xE) := by decide

/-- A word of each row, as the host numbers it, a frame's first byte least significant. -/
theorem test_table_words :
    decodeTableWord 16 0x1FF = some (.setBoard 0xFF) ∧ decodeTableWord 12 0xF00 = some .reset ∧
    decodeTableWord 72 0x820182010959_4C4B57 = some (.unlock 0x01 0x01 0x82) ∧
    decodeTableWord 88 0x810101008201_0B594C4B57 = some (.rspUnlock 0x0B 0x01 0x00 0x01 0x01 0x81) := by decide

/-- As 30_encoding.md R70 writes a frame, the first byte most significant. -/
theorem test_table_word_as_written :
    decodeTableWord 72 0x574B4C590901820182 = some (.unlock 0x01 0x01 0x82) ∧
    decodeTableWord 72 0x574B4C590900820000 = none := by decide

/-! ## What WellFormed refuses -/

theorem test_wellFormed_unlock_checksum : ¬ WellFormed (.unlock 0x01 0x01 0x83) := by decide
theorem test_wellFormed_status_checksum : ¬ WellFormed (.status 0x12 0x34 0xA4) := by decide
theorem test_wellFormed_rspUnlock_checksum : ¬ WellFormed (.rspUnlock 0x0B 0x01 0x00 0x01 0x01 0x80) := by decide
theorem test_wellFormed_rspStatus_checksum : ¬ WellFormed (.rspStatus 0x0B 0x01 0x00 0x01 0x00 0x80) := by decide
theorem test_wellFormed_rspOther_checksum : ¬ WellFormed (.rspOther 0x0B 0x01 0x84 0x00 0x01 0x00 0x87) := by decide
theorem test_wellFormed_rspOther_echo : ¬ WellFormed (.rspOther 0x0B 0x01 0x82 0x00 0x01 0x01 0x81) := by decide

/-! ## One step of each instruction -/

/-- 45_system_ops.md R190. -/
theorem test_setBoard : (after (.setBoard 0x12) idle).map (·.ident) = some { board := some 0x12, chan := some 0x01 } := by
  decide

/-- 45_system_ops.md R191. -/
theorem test_setChan : (after (.setChan 0x02) idle).map (·.ident) = some { board := some 0x01, chan := some 0x02 } := by
  decide

/-- 41_tx_encode.md R121, R123. -/
theorem test_encUnlock : (after .encUnlock idle).map (fun t => (t.tx, t.answer)) = some (busyTx 0 0x00, .accepted) := by
  decide

/-- 45_system_ops.md R195: after `RESET`, `ENC.UNLOCK -> refused`. -/
theorem test_encUnlock_refused : (after .encUnlock State.reset).map (·.answer) = some .refused := by decide

/-- 41_tx_encode.md R122, R127: busy or not. -/
theorem test_encStatus :
    (after .encStatus { idle with tx := busyTx 5 0x00 }).map (·.tx) = some { busyTx 0 0x00 with cmd := 0x83 } := by decide

/-- 41_tx_encode.md R125's example, the second byte. -/
theorem test_txNext :
    (after .txNext { idle with tx := busyTx 1 0x57 }).map (fun t => (t.tx, t.answer)) =
      some (busyTx 2 0x1C, .byte 0x4B) := by decide

/-- 41_tx_encode.md R125's example, the checksum byte. -/
theorem test_txNext_last :
    (after .txNext { idle with tx := busyTx 8 0x82 }).map (fun t => (t.tx, t.answer)) =
      some (sentTx .unlock 0x01 0x01, .byte 0x82) := by decide

/-- 43_rx_verify_parse.md R155: in the middle of a chunk too. -/
theorem test_rxStart : (after .rxStart { idle with rx := openRx 7 false }).map (·.rx) = some RxUnit.started := by decide

/-- 43_rx_verify_parse.md R156's example, its fifth byte. -/
theorem test_rxByte :
    (after (.rxByte 0x0B) { idle with rx := { RxUnit.started with cnt := 4, xor := 0x09 } }).map (·.rx) =
      some (openRx 5 true) := by decide

/-- 42_rx_header_detect.md R141's example: the third byte is wrong. -/
theorem test_rxByte_header :
    (after (.rxByte 0x4D) { idle with rx := { RxUnit.started with cnt := 2, xor := 0x1C } }).map (·.rx.hdrOk) =
      some false := by decide

/-- 43_rx_verify_parse.md R158's example. -/
theorem test_rxEnd :
    (after .rxEnd { idle with rx := fullRx 0x81 }).map (fun t => (t.rx, t.answer, t.rxDone)) =
      some (okRx, .result (some .ok), some .ok) := by decide

/-- 43_rx_verify_parse.md R158: the empty chunk. -/
theorem test_rxEnd_empty :
    (after .rxEnd { idle with rx := RxUnit.started }).map (·.answer) = some (.result (some .headerMismatch)) := by decide

/-- 45_system_ops.md R192's example. -/
theorem test_rdResult :
    (after .rdResult { idle with rx := failedRx }).map (·.answer) = some (.result (some .checksumMismatch)) := by decide

/-- 45_system_ops.md R193's example. -/
theorem test_rdField :
    (after (.rdField 0x05) idle).map (·.answer) = some (.byte 0x01) ∧
    (after (.rdField 0x02) idle).map (·.answer) = some (.byte 0x82) := by decide

/-- 45_system_ops.md R193: a failed chunk yields no fields; 30_encoding.md R87. -/
theorem test_rdField_refused :
    (after (.rdField 0x05) { idle with rx := failedRx }).map (·.answer) = some .refused ∧
    (after (.rdField 0x06) idle).map (·.answer) = some .refused := by decide

/-- 44_response_classify.md R186's example, packed 0x17. -/
theorem test_rdClass :
    (after .rdClass idle).map (·.answer) =
      some (.classFlags { addrMatch := true, statusOk := true, cmdKind := .unlock, lockClass := .locked }) ∧
    packedClass { addrMatch := true, statusOk := true, cmdKind := .unlock, lockClass := .locked } = 0x17 := by decide

/-- 45_system_ops.md R194's example, packed 0x267. -/
theorem test_rdStat :
    (after .rdStat { idle with tx := busyTx 3 0x50, rx := openRx 4 true }).map (·.answer) =
      some (.stat { txBusy := true, txIdx := 3, rxOpen := true, hdrDet := true, rxCnt := 4 }) ∧
    StatRecord.packed { txBusy := true, txIdx := 3, rxOpen := true, hdrDet := true, rxCnt := 4 } = 0x267 := by decide

/-- 45_system_ops.md R195. -/
theorem test_reset :
    (after .reset { idle with tx := busyTx 4 0x09 }).map (fun t => (t.ident, t.tx, t.rx)) =
      some (Identity.atReset, TxUnit.atReset, RxUnit.atReset) := by decide

/-- 41_tx_encode.md R121's example. -/
theorem test_unlock :
    (after (.unlock 0x01 0x01 0x82) idle).map (·.answer) =
      some (.frame [0x57, 0x4B, 0x4C, 0x59, 0x09, 0x01, 0x82, 0x01, 0x82]) := by decide

/-- The block sends no frame of another identity (41_tx_encode.md R123). -/
theorem test_status :
    (after (.status 0x01 0x01 0x83) idle).map (·.answer) =
      some (.frame [0x57, 0x4B, 0x4C, 0x59, 0x09, 0x01, 0x83, 0x01, 0x83]) ∧
    (after (.status 0x12 0x34 0xA5) idle).map (·.answer) = some .refused := by decide

/-- 43_rx_verify_parse.md R158's example. -/
theorem test_rspUnlock :
    (after (.rspUnlock 0x0B 0x01 0x00 0x01 0x01 0x81) State.reset).map (·.rx) = some okRx := by decide

/-- 44_response_classify.md R185's example. -/
theorem test_rspStatus :
    (after (.rspStatus 0x0B 0x01 0x00 0x01 0x01 0x80) State.reset).map (·.rx.parsed) =
      some (some { len := 0x0B, board := 0x01, cmd := 0x83, status := 0x00, chan := 0x01, lock := 0x01 }) := by decide

/-- V134, received. -/
theorem test_rspOther :
    (after (.rspOther 0x0B 0x01 0x84 0x00 0x01 0x00 0x86) State.reset).map (·.answer) = some (.result (some .ok)) := by
  decide

/-! ## The step -/

/-- The host's placed instruction is the one the first step after reset runs. -/
theorem test_withFetchWord :
    (stepped (State.reset.withFetchWord 16 0x1FF)).map (·.ident.board) = some (some 0xFF) := by decide

/-- With nothing to do, nothing happens (70_reset_and_hazards.md R304). -/
theorem test_nothing_happens : stepped State.reset = some State.reset := by decide

/-- V153. -/
theorem test_unassigned_refused :
    (stepped (given idle (.request (.port 0x000)) [])).map (·.answer) = some .refused := by decide

/-- A received chunk that is no frame gets its verdict (42_rx_header_detect.md R146). -/
theorem test_looped_back :
    (stepped (given idle (.request (.received [0x57, 0x4B, 0x4C, 0x59, 0x09, 0x01, 0x82, 0x01, 0x82])) [])).map
      (fun t => (t.answer, t.rx.hdrDet)) = some (.result (some .checksumMismatch), true) := by decide

/-- 46_host_link_controller.md R212: `unlock()`. -/
theorem test_unlockCall :
    (stepped (given idle (.event .unlockCall) [.succeeded, .succeeded])).map (·.actions) =
      some [.openedPort, .wrote [0x57, 0x4B, 0x4C, 0x59, 0x09, 0x01, 0x82, 0x01, 0x82]] := by decide

/-- 46_host_link_controller.md R223: still locked. -/
theorem test_unlocking_locked :
    (stepped (given (atWork (linked .unlocking true)) (.event (.dataAvailable goodBytes)) [.succeeded])).map
      (fun t => (t.ctl.link, t.actions)) =
      some (.waitingToUnlock, [.wrote [0x57, 0x4B, 0x4C, 0x59, 0x09, 0x01, 0x83, 0x01, 0x83]]) := by decide

/-- 46_host_link_controller.md R225: locked again. -/
theorem test_polling_locked :
    (stepped (given (atWork (linked .polling true)) (.event (.dataAvailable lockedBytes)) [])).map
      (fun t => (t.ctl, t.actions)) = some (linked .idle false, [.locked, .closedPort]) := by decide

/-- 46_host_link_controller.md R222: a corrupted response. -/
theorem test_soft_retry :
    (stepped (given (atWork (linked .polling true)) (.event (.dataAvailable badBytes)) [.succeeded])).map (·.actions) =
      some [.recognised .checksumMismatch, .wrote [0x57, 0x4B, 0x4C, 0x59, 0x09, 0x01, 0x83, 0x01, 0x83]] := by decide

/-- 46_host_link_controller.md R226, R227: the resend fails, and so does the reopening. -/
theorem test_hard_reconnect :
    (stepped (given (atWork (linked .polling true)) (.event (.dataAvailable badBytes)) [.failed, .failed])).map
      (fun t => (t.ctl, t.actions)) =
      some ({ linked .polling false with retry := true, reconnectTimers := 1 },
        [.recognised .checksumMismatch, .recognised .transportWriteFailure, .linkError, .closedPort,
          .recognised .transportOpenFailure, .armedReconnect 10000]) := by decide

/-- 46_host_link_controller.md R202, log 9: with no answer ready the handler still ends, in one step. -/
theorem test_no_answers :
    (stepped (given (atWork (linked .polling true)) (.event .pollCall) [])).map (fun t => (t.ctl, t.inbox, t.actions)) =
      some ({ linked .polling false with retry := true, reconnectTimers := 1 }, [],
        [.recognised .transportWriteFailure, .linkError, .closedPort, .recognised .transportOpenFailure,
          .armedReconnect 10000]) := by decide

/-- 30_encoding.md R90: `verify(bytes)` reads the fields on an `Ok` and none on a failed chunk. -/
theorem test_runVerify :
    ((runVerify goodBytes State.reset).map fun r => (r.1.drop 13).map (·.1)) =
      some [.result (some .ok), .byte 0x0B, .byte 0x01, .byte 0x82, .byte 0x00, .byte 0x01, .byte 0x01] ∧
    ((runVerify badBytes State.reset).map fun r => (r.1.drop 13).map (·.1)) =
      some [.result (some .checksumMismatch)] := by decide

/-- An operation as 30_encoding.md R89 writes it. -/
theorem test_listing : (Instr.rxByte 0x57).listing = "RX.BYTE 0x57" := by decide

/-! ## Witnesses: states and operands that meet each statement's hypotheses -/

/-- What a good state asks of the RX unit, met by the unit after `goodBytes`. -/
theorem okRx_history : RxHistory 32 goodBytes okRx := by
  refine ⟨by decide, ?_, by decide, ?_, by decide, ?_⟩
  · refine ⟨fun _ i hi => ?_, fun _ => rfl⟩
    obtain rfl | rfl | rfl | rfl : i = 0 ∨ i = 1 ∨ i = 2 ∨ i = 3 := by
      simp [goodBytes] at hi; omega
    all_goals rfl
  · intro i h4 h10
    obtain rfl | rfl | rfl | rfl | rfl | rfl | rfl : i = 4 ∨ i = 5 ∨ i = 6 ∨ i = 7 ∨ i = 8 ∨ i = 9 ∨ i = 10 := by omega
    all_goals rfl
  · rintro v ⟨⟩; exact ⟨rfl, by decide⟩

/-- The states at work are good when their controller's state is. -/
theorem good_atWork (c : Controller) (i : List Input) (rs : List TransportReply) (h : CtlInv c) :
    GoodState { atWork c with inbox := i, replies := rs } := by
  refine ⟨⟨fun _ => ⟨rfl, rfl⟩, fun h => ?_⟩, ⟨goodBytes, okRx_history⟩, h, show 11 ≤ 32 by decide⟩
  exact Bool.noConfusion (show false = true from h)

theorem ctlInv_idle : CtlInv (linked .idle false) := by simp [CtlInv, linked, Controller.atStart]

theorem ctlInv_open (l : LinkState) (h : l ≠ .idle) : CtlInv (linked l true) := by
  simp [CtlInv, linked, Controller.atStart, h]

theorem good_idle : GoodState idle := good_atWork _ _ _ ctlInv_idle

/-- A byte list changed at one place is unchanged at the others. -/
theorem set_elsewhere (f : List Byte) (i : Nat) (x : Byte) (j : Nat) (h : j ≠ i) : (f.set i x)[j]? = f[j]? := by
  rw [List.getElem?_set_ne (Ne.symm h)]

theorem test_witness_DecodeInvertsEncode :
    WellFormed (.unlock 0x01 0x01 0x82) ∧ WellFormed (.status 0x12 0x34 0xA5) ∧
    WellFormed (.rspUnlock 0x0B 0x01 0x00 0x01 0x01 0x81) ∧ WellFormed (.rspStatus 0x00 0xFF 0x7F 0x00 0x02 0x08) ∧
    WellFormed (.rspOther 0x0B 0x01 0x84 0x00 0x01 0x00 0x86) ∧ WellFormed (.rdField 0xFF) := by decide

/-- An operation without an operand with bits in the ignored place, one with an operand, and both kinds of frame. -/
theorem test_witness_EncodeInvertsDecode :
    decode (.port 0x3A7) = .ok .encUnlock ∧ encode .encUnlock = .port (portWord (selector 0x3A7) 0x00) ∧
    decode (.port 0x1FF) = .ok (.setBoard 0xFF) ∧ encode (.setBoard 0xFF) = .port 0x1FF ∧
    decode (.sent [0x57, 0x4B, 0x4C, 0x59, 0x09, 0x01, 0x82, 0x01, 0x82]) = .ok (.unlock 0x01 0x01 0x82) ∧
    decode (.received goodBytes) = .ok (.rspUnlock 0x0B 0x01 0x00 0x01 0x01 0x81) := by decide

theorem test_witness_XorfoldLaws : [(0x57 : Byte), 0x4B].Perm [0x4B, 0x57] := by decide

/-- The first, the fourth, the fifth and the last byte changed. -/
theorem test_witness_SingleByteErrorsDetected (i : Fin 11) :
    checksumOk goodBytes = true ∧ goodBytes.length = 11 ∧
    verify goodBytes = .ok { len := 0x0B, board := 0x01, cmd := 0x82, status := 0x00, chan := 0x01, lock := 0x01 } ∧
    (goodBytes.set i.val 0xEE).length = 11 ∧ (∀ j, j ≠ i.val → (goodBytes.set i.val 0xEE)[j]? = goodBytes[j]?) ∧
    (goodBytes.set i.val 0xEE)[i.val]? ≠ goodBytes[i.val]? := by
  refine ⟨by decide, by decide, by decide, by revert i; decide, set_elsewhere _ _ _, by revert i; decide⟩

/-- 40_checksum.md R109's example. -/
theorem test_witness_CancellingErrorsPass :
    goodBytes ≠ [] ∧ checksumOk goodBytes = true ∧
    verify goodBytes = .ok { len := 0x0B, board := 0x01, cmd := 0x82, status := 0x00, chan := 0x01, lock := 0x01 } ∧
    ((goodBytes.set 7 0x01).set 9 0x00).length = goodBytes.length ∧ goodBytes.length = 11 ∧
    ((goodBytes.set 7 0x01).set 9 0x00).take 4 = goodBytes.take 4 ∧
    xorfold (List.zipWith (· ^^^ ·) goodBytes ((goodBytes.set 7 0x01).set 9 0x00)) = 0x00 := by decide

theorem test_witness_CommandFrameBytes :
    (encodeFrame .unlock 0x01 0x01)[8]? = some 0x82 ∧ (encodeFrame .status 0x01 0x01)[8]? = some 0x83 := by decide

theorem test_witness_EncodeIsInjectiveOntoCommandFrames :
    encodeFrame .unlock 0x01 0x02 = encodeFrame .unlock 0x01 0x02 ∧
    (let s : List Byte := [0x57, 0x4B, 0x4C, 0x59, 0x09, 0x12, 0x83, 0x34, 0xA5]
     s.length = 9 ∧ s.take 4 = [0x57, 0x4B, 0x4C, 0x59] ∧ s[4]? = some 0x09 ∧ s[6]? = some 0x83 ∧
      s[8]? = some (xorfold (s.take 8)) ∧ s = encodeFrame .status 0x12 0x34) := by decide

theorem test_witness_ResponseRoundTrip :
    goodBytes.length = 11 ∧
    verify goodBytes = .ok { len := 0x0B, board := 0x01, cmd := 0x82, status := 0x00, chan := 0x01, lock := 0x01 } := by
  decide

/-- Lengths 3, 4, 10, 11 and 12: the values where the clauses meet. -/
theorem test_witness_VerifyByClauses :
    (goodBytes.take 3).length < 4 ∧ [(0x57 : Byte), 0x4B, 0x4C, 0x58].take 4 ≠ [0x57, 0x4B, 0x4C, 0x59] ∧
    ((goodBytes.take 4).take 4 = [0x57, 0x4B, 0x4C, 0x59] ∧ (goodBytes.take 4).length < 11) ∧
    ((goodBytes.take 10).take 4 = [0x57, 0x4B, 0x4C, 0x59] ∧ (goodBytes.take 10).length < 11) ∧
    (badBytes.take 4 = [0x57, 0x4B, 0x4C, 0x59] ∧ 11 ≤ badBytes.length ∧ badBytes[10]? ≠ some (xorfold (badBytes.take 10))) ∧
    (goodBytes.take 4 = [0x57, 0x4B, 0x4C, 0x59] ∧ goodBytes[10]? = some (xorfold (goodBytes.take 10))) ∧
    ((goodBytes ++ [0x00])[10]? = some (xorfold ((goodBytes ++ [0x00]).take 10))) := by decide

theorem test_witness_VerifyIgnoresTrailingBytes : 11 ≤ goodBytes.length ∧ 11 ≤ (goodBytes ++ [0x57]).length := by decide

theorem test_witness_EncLatchesTheIdentity : HasIdentity idle 0x01 0x01 := ⟨rfl, rfl⟩

theorem test_witness_EncRefusedWithoutIdentity :
    (State.reset.ident.board = none ∨ State.reset.ident.chan = none) ∧
    (let s : State := { idle with ident := { board := some 0x01, chan := none } }
     s.ident.board = none ∨ s.ident.chan = none) := by decide

/-- Offsets 0, 7 and 8. -/
theorem test_witness_TxNextDeliversTheFrame :
    (busyTx 0 0x00).busy = true ∧ ((busyTx 0 0x00).idx.val ≤ 7 ∧ (busyTx 7 0x83).idx.val ≤ 7) ∧
    [(0x57 : Byte), 0x4B, 0x4C, 0x59, 0x09, 0x01, 0x82, 0x01][(busyTx 0 0x00).idx.val]? = some 0x57 ∧
    [(0x57 : Byte), 0x4B, 0x4C, 0x59, 0x09, 0x01, 0x82, 0x01][(busyTx 7 0x83).idx.val]? = some 0x01 ∧
    (busyTx 8 0x82).busy = true ∧ (busyTx 8 0x82).idx.val = 8 := by decide

theorem test_witness_TxNextEmptyWhenIdle : idle.tx.busy = false := by decide

/-- Offsets 0, 3, 4, 9, 10, 11 and 31, and a full chunk. -/
theorem test_witness_RxByteByOffset :
    (∀ n ∈ [0, 3, 4, 9, 10, 11, 31], (openRx n true).phase = .opened ∧ (openRx n true).cnt ≠ idle.params.rxChunk) ∧
    (openRx 32 true).phase = .opened ∧ (openRx 32 true).cnt = idle.params.rxChunk := by decide

theorem test_witness_RxByteIgnoredWhenClosed : idle.rx.phase = .closed := by decide

/-- Three and four bytes, a header that failed at eleven, ten bytes, and eleven with a wrong and a right checksum. -/
theorem test_witness_RxEndGivesTheVerdict :
    ((openRx 3 true).phase = .opened ∧ (openRx 3 true).cnt < 4) ∧
    ((openRx 11 false).phase = .opened ∧ (openRx 11 false).hdrOk = false) ∧
    (4 ≤ (openRx 4 true).cnt ∧ (openRx 4 true).hdrOk = true ∧ (openRx 4 true).cnt < 11) ∧
    (4 ≤ (openRx 10 true).cnt ∧ (openRx 10 true).hdrOk = true ∧ (openRx 10 true).cnt < 11) ∧
    (11 ≤ (fullRx 0x80).cnt ∧ (fullRx 0x80).hdrOk = true ∧ (fullRx 0x80).cap.c10 = some 0x80 ∧ (0x80 : Byte) ≠ (fullRx 0x80).xor) ∧
    (11 ≤ (fullRx 0x81).cnt ∧ (fullRx 0x81).hdrOk = true ∧ (fullRx 0x81).cap.c10 = some (fullRx 0x81).xor) := by decide

theorem test_witness_RxEndIgnoredWhenClosed : idle.rx.phase = .closed := by decide

/-- Selectors 0, 5 and 6, and no `Ok`. -/
theorem test_witness_FieldReadOnlyAfterOk :
    idle.rx.result = some .ok ∧
    [idle.rx.cap.c4, idle.rx.cap.c5, idle.rx.cap.c6, idle.rx.cap.c7, idle.rx.cap.c8, idle.rx.cap.c9][(0x00 : Byte).toNat]? =
      some (some 0x0B) ∧
    [idle.rx.cap.c4, idle.rx.cap.c5, idle.rx.cap.c6, idle.rx.cap.c7, idle.rx.cap.c8, idle.rx.cap.c9][(0x05 : Byte).toNat]? =
      some (some 0x01) ∧
    5 < (0x06 : Byte).toNat ∧ failedRx.result ≠ some .ok := by decide

theorem test_witness_ClassReadOnlyAfterOk :
    (idle.rx.result = some .ok ∧ HasIdentity idle 0x01 0x01 ∧
      idle.rx.cap.fields = some { len := 0x0B, board := 0x01, cmd := 0x82, status := 0x00, chan := 0x01, lock := 0x01 }) ∧
    failedRx.result ≠ some .ok ∧ State.reset.ident.board = none ∧ State.reset.ident.chan = none :=
  ⟨⟨by decide, ⟨rfl, rfl⟩, by decide⟩, by decide, by decide, by decide⟩

/-- The right frames; a frame of another identity; a wrong checksum. -/
theorem test_witness_CommandFrameIsSent :
    (HasIdentity idle 0x01 0x01 ∧ (0x82 : Byte) = 0x01 ^^^ 0x82 ^^^ 0x01) ∧ (0x83 : Byte) = 0x01 ^^^ 0x83 ^^^ 0x01 ∧
    ¬ (HasIdentity idle 0x12 0x01 ∧ (0x91 : Byte) = 0x12 ^^^ 0x82 ^^^ 0x01) ∧
    ¬ (HasIdentity idle 0x01 0x01 ∧ (0x82 : Byte) = 0x01 ^^^ 0x83 ^^^ 0x01) := by
  refine ⟨⟨⟨rfl, rfl⟩, by decide⟩, by decide, ?_, ?_⟩
  · rintro ⟨⟨h, -⟩, -⟩; exact absurd h (by decide)
  · rintro ⟨-, h⟩; exact absurd h (by decide)

theorem test_witness_ResponseFrameIsReceived :
    11 ≤ idle.params.rxChunk ∧
    (.ok : Verdict) = (if (0x81 : Byte) = xorfold [0x57, 0x4B, 0x4C, 0x59, 0x0B, 0x01, 0x82, 0x00, 0x01, 0x01] then .ok
      else .checksumMismatch) ∧
    (.checksumMismatch : Verdict) = (if (0x80 : Byte) = xorfold [0x57, 0x4B, 0x4C, 0x59, 0x0B, 0x01, 0x82, 0x00, 0x01, 0x01]
      then .ok else .checksumMismatch) := by decide

theorem test_witness_FramesRunTheirOperations : HasIdentity idle 0x01 0x01 ∧ 11 ≤ idle.params.rxChunk :=
  ⟨⟨rfl, rfl⟩, by decide⟩

theorem test_witness_StepRunsTheDecodedInstruction :
    (given idle (.request (.port 0x3A7)) []).inbox = [.request (.port 0x3A7)] ∧ decode (.port 0x3A7) = .ok .encUnlock := by
  decide

theorem test_witness_UnassignedSelectorIsRefused :
    (given idle (.request (.port 0xD12)) []).inbox = [.request (.port 0xD12)] ∧
    selector 0x0FF = 0x0 ∧ selector 0xD12 = 0xD ∧ selector 0xEFF = 0xE := by decide

theorem test_witness_StepKeepsGoodStates :
    GoodState (given idle (.request (.port 0x300)) []) ∧ ∃ t, step (given idle (.request (.port 0x300)) []) = .next t :=
  ⟨good_atWork _ _ _ ctlInv_idle, _, rfl⟩

theorem test_witness_EveryInstructionCompletesInGoodStates : GoodState idle := good_idle

theorem test_witness_GoodStatesNeverStop : GoodState (atWork (linked .polling true)) :=
  good_atWork _ _ _ (ctlInv_open _ (by decide))

theorem test_witness_ParametersAreFixed : ∃ t, step (given idle (.event .unlockCall) [.failed]) = .next t := ⟨_, rfl⟩

theorem test_witness_InstructionsStayInTheirGroup :
    (∃ t, exec .txNext idle = .next t) ∧ (∃ t, exec .rxEnd idle = .next t) ∧ (∃ t, exec (.setBoard 0x12) idle = .next t) ∧
    (∃ t, exec (.rdField 0x05) idle = .next t) ∧ (∃ t, exec .reset idle = .next t) :=
  ⟨⟨_, rfl⟩, ⟨_, rfl⟩, ⟨_, rfl⟩, ⟨_, rfl⟩, ⟨_, rfl⟩⟩

theorem test_witness_TxAndRxCommute :
    isTx .encStatus = true ∧ isRx .rxStart = true ∧
    ∃ a b t, runOps [.encStatus, .rxStart] idle = some ([a, b], t) :=
  ⟨by decide, by decide, _, _, _, rfl⟩

theorem test_witness_TxDeliversEncode :
    GoodState idle ∧ HasIdentity idle 0x01 0x01 ∧
    (∀ i ∈ List.replicate 9 Instr.txNext ++ [.setBoard 0x12, .rxStart, .rdStat, .txNext],
      i = .txNext ∨ (isTx i = false ∧ i ≠ .reset)) :=
  ⟨good_idle, ⟨rfl, rfl⟩, by decide⟩

theorem test_witness_RxAgreesWithVerify :
    GoodState idle ∧
    (∀ i ∈ [Instr.rxByte 0x57, .encStatus, .txNext, .rdField 0x05, .setChan 0x02, .rxByte 0x4B],
      (∃ d, i = .rxByte d) ∨ (isRx i = false ∧ i ≠ .reset)) := by
  refine ⟨good_idle, fun i hi => ?_⟩
  simp only [List.mem_cons, List.not_mem_nil, or_false] at hi
  rcases hi with rfl | rfl | rfl | rfl | rfl | rfl
  · exact .inl ⟨_, rfl⟩
  · exact .inr (by decide)
  · exact .inr (by decide)
  · exact .inr (by decide)
  · exact .inr (by decide)
  · exact .inl ⟨_, rfl⟩

theorem test_witness_HeaderDetectorAgrees : 4 ≤ idle.params.rxChunk := by decide

/-- The parameter, a verified chunk and a failed one. -/
theorem test_witness_ReceivedFieldsReadBack :
    11 ≤ idle.params.rxChunk ∧
    verify goodBytes = .ok { len := 0x0B, board := 0x01, cmd := 0x82, status := 0x00, chan := 0x01, lock := 0x01 } ∧
    verify badBytes = .error .checksumMismatch := by decide

/-- Two states that differ in what is hidden, and a run. -/
theorem test_witness_HiddenRegistersStayHidden :
    SameVisible { idle with rx := failedRx }
      { idle with tx := sentTx .status 0x12 0x34, rx := { failedRx with xor := 0x00, cap := Captures.blank } } ∧
    ∃ o t, runOps [.txNext, .rxEnd, .rdField 0x05, .encUnlock, .txNext] { idle with rx := failedRx } = some (o, t) :=
  ⟨⟨rfl, rfl, .inr ⟨rfl, rfl, rfl⟩, .inr ⟨rfl, rfl, rfl, rfl, rfl, by decide⟩⟩, _, _, rfl⟩

/-- A state at work whose identity lacks its channel. -/
def nameless (c : Controller) : State := { atWork c with ident := { board := some 0x01, chan := none } }

/-- In `Idle` with answers, with a failed send, with an identity register unset, with a failed open, and in another state. -/
theorem test_witness_UnlockOpensAndSends :
    (∀ rs, Handles (given idle (.event .unlockCall) rs) .unlockCall [] ∧ HasIdentity (given idle (.event .unlockCall) rs) 0x01 0x01 ∧
      (given idle (.event .unlockCall) rs).replies = rs) ∧
    idle.ctl.link = .idle ∧
    (Handles (given (nameless (linked .idle false)) (.event .unlockCall) [.succeeded]) .unlockCall [] ∧
      (nameless (linked .idle false)).ctl.link = .idle ∧ (nameless (linked .idle false)).ident.chan = none) ∧
    (Handles (given (atWork (linked .polling true)) (.event .unlockCall) []) .unlockCall [] ∧
      (atWork (linked .polling true)).ctl.link ≠ .idle) :=
  ⟨fun _ => ⟨rfl, ⟨rfl, rfl⟩, rfl⟩, rfl, ⟨rfl, rfl, rfl⟩, rfl, by decide⟩

/-- The port open and closed, with any answers, and an identity register unset. -/
theorem test_witness_PollSendsStatus :
    (∀ p rs, Handles (given (atWork (linked .polling p)) (.event .pollCall) rs) .pollCall [] ∧
      HasIdentity (given (atWork (linked .polling p)) (.event .pollCall) rs) 0x01 0x01 ∧
      (given (atWork (linked .polling p)) (.event .pollCall) rs).ctl.portOpen = p ∧
      (given (atWork (linked .polling p)) (.event .pollCall) rs).replies = rs) ∧
    (Handles (given (nameless (linked .idle false)) (.event .pollCall) []) .pollCall [] ∧
      (nameless (linked .idle false)).ident.chan = none) :=
  ⟨fun _ _ => ⟨rfl, ⟨rfl, rfl⟩, rfl, rfl⟩, rfl, rfl⟩

theorem test_witness_IdentityCallsWriteTheRegisters :
    Handles (given idle (.event (.setBoardCall 0x12)) []) (.setBoardCall 0x12) [] ∧
    Handles (given idle (.event (.setChannelCall 0x34)) []) (.setChannelCall 0x34) [] := ⟨rfl, rfl⟩

/-- A response as the board gives it, its echo and lock status `e` and `k`. -/
def response (e k : Byte) : List Byte :=
  mkResponse { len := 0x0B, board := 0x01, cmd := e, status := 0x00, chan := 0x01, lock := k }

/-- Each row of the table: an accepted response in that link state; the rows of `Polling` with no answer ready, too. -/
theorem test_witness_AcceptedResponseActsByTheTable :
    (∀ l : LinkState, l ≠ .idle → ∀ bytes rs,
      GoodState (given (atWork (linked l true)) (.event (.dataAvailable bytes)) rs) ∧
      Handles (given (atWork (linked l true)) (.event (.dataAvailable bytes)) rs) (.dataAvailable bytes) [] ∧
      HasIdentity (atWork (linked l true)) 0x01 0x01 ∧ (linked l true).portOpen = true ∧
      (given (atWork (linked l true)) (.event (.dataAvailable bytes)) rs).replies = rs) ∧
    ((linked .polling true).link ≠ .polling → ([] : List TransportReply) = .succeeded :: []) ∧
    LinkState.expectedKind .unlocking = some .unlock ∧ LinkState.expectedKind .waitingToUnlock = some .status ∧
    LinkState.expectedKind .polling = some .status ∧
    GoodRead 32 0x01 0x01 .unlock (response 0x82 0x00) .unlocked ∧ GoodRead 32 0x01 0x01 .unlock (response 0x82 0x01) .locked ∧
    GoodRead 32 0x01 0x01 .status (response 0x83 0x00) .unlocked ∧ GoodRead 32 0x01 0x01 .status (response 0x83 0x01) .locked := by
  refine ⟨fun l h bytes rs => ⟨good_atWork _ _ _ (ctlInv_open l h), rfl, ⟨rfl, rfl⟩, rfl, rfl⟩, fun h => absurd rfl h, rfl, rfl, rfl,
    ?_, ?_, ?_, ?_⟩
  all_goals exact ⟨_, by rfl, by decide⟩

/-- Every name a bad read event can have, any answers, and an identity register unset. -/
theorem test_witness_BadReadIsSoftRetried :
    BadRead 32 0x01 0x01 .unlock [] .headerMismatch ∧ BadRead 32 0x01 0x01 .unlock badBytes .checksumMismatch ∧
    BadRead 32 0x02 0x01 .unlock goodBytes .addressMismatch ∧ BadRead 32 0x01 0x01 .status goodBytes .commandMismatch ∧
    BadRead 32 0x01 0x01 .unlock ((goodBytes.set 7 0x01).set 9 0x00) .statusError ∧
    BadRead 32 0x01 0x01 .unlock (response 0x82 0x02) .unknownLockStatus ∧
    (∀ rs, GoodState (given (atWork (linked .unlocking true)) (.event (.dataAvailable badBytes)) rs) ∧
      Handles (given (atWork (linked .unlocking true)) (.event (.dataAvailable badBytes)) rs) (.dataAvailable badBytes) [] ∧
      (given (atWork (linked .unlocking true)) (.event (.dataAvailable badBytes)) rs).replies = rs) ∧
    HasIdentity (atWork (linked .unlocking true)) 0x01 0x01 ∧ (linked .unlocking true).link.expectedKind = some .unlock ∧
    (linked .unlocking true).portOpen = true ∧
    (∀ bytes, GoodState (given (nameless (linked .unlocking true)) (.event (.dataAvailable bytes)) []) ∧
      Handles (given (nameless (linked .unlocking true)) (.event (.dataAvailable bytes)) []) (.dataAvailable bytes) []) ∧
    (nameless (linked .unlocking true)).ident.chan = none :=
  ⟨rfl, rfl, rfl, rfl, rfl, rfl, fun _ => ⟨good_atWork _ _ _ (ctlInv_open _ (by decide)), rfl, rfl⟩, ⟨rfl, rfl⟩, rfl, rfl,
    fun _ => ⟨good_atWork _ [] [] (ctlInv_open .unlocking (by decide)), rfl⟩, rfl⟩

theorem test_witness_IdleIgnoresReadEvents :
    Handles (given idle (.event (.dataAvailable goodBytes)) []) (.dataAvailable goodBytes) [] ∧
    GoodState (given idle (.event (.dataAvailable goodBytes)) []) ∧ idle.ctl.link = .idle :=
  ⟨rfl, good_atWork _ _ _ ctlInv_idle, rfl⟩

/-- Two bad read events. -/
theorem test_witness_RetryIsIdempotent :
    (let s : State := { atWork (linked .polling true) with
        inbox := [badBytes, []].map fun x => .event (.dataAvailable x), replies := [.succeeded, .succeeded] }
     GoodState s ∧ HasIdentity s 0x01 0x01 ∧ s.ctl.link.expectedKind = some .status ∧ s.ctl.portOpen = true ∧
      s.replies = List.replicate 2 .succeeded ++ []) ∧
    (∀ x ∈ [badBytes, []], ∃ e, BadRead 32 0x01 0x01 .status x e) := by
  refine ⟨⟨good_atWork _ _ _ (ctlInv_open _ (by decide)), ⟨rfl, rfl⟩, rfl, rfl, rfl⟩, fun x hx => ?_⟩
  simp only [List.mem_cons, List.not_mem_nil, or_false] at hx
  rcases hx with rfl | rfl
  · exact ⟨.checksumMismatch, rfl⟩
  · exact ⟨.headerMismatch, rfl⟩

theorem test_witness_LockedOnlyFromPolling :
    ∃ t, step (given (atWork (linked .polling true)) (.event (.dataAvailable lockedBytes)) []) = .next t ∧
      Action.locked ∈ t.actions := ⟨_, rfl, by decide⟩

theorem test_witness_LinkErrorPerHardReconnect :
    (∃ t, step (given (atWork (linked .polling true)) (.event .transportError) [.failed]) = .next t) ∧
    (∃ t, step (given (atWork (linked .polling true)) (.event .pollCall) [.failed, .failed]) = .next t) :=
  ⟨⟨_, rfl⟩, ⟨_, rfl⟩⟩

theorem test_witness_TransportErrorReconnects :
    Handles (given (atWork (linked .polling true)) (.event .transportError) [.succeeded, .succeeded]) .transportError [] ∧
    HasIdentity (atWork (linked .polling true)) 0x01 0x01 ∧ (linked .polling true).link.expectedKind = some .status ∧
    Handles (given (atWork (linked .unlocking false)) (.event .transportError) [.failed]) .transportError [] ∧
    (linked .unlocking false).link ≠ .idle ∧
    Handles (given idle (.event .transportError) []) .transportError [] ∧ idle.ctl.link = .idle :=
  ⟨rfl, ⟨rfl, rfl⟩, rfl, rfl, by decide, rfl, rfl⟩

/-- The poll timer current and stale, the reconnect timer current (answered both ways) and stale (in both ways). -/
theorem test_witness_TimersActOnlyWhenCurrent :
    (∀ l p e rs, Handles (given (atWork { linked l p with pollTimers := 1, reconnectTimers := 1, retry := true }) (.event e) rs)
      e []) ∧
    (∀ l p, HasIdentity (atWork { linked l p with pollTimers := 1, reconnectTimers := 1, retry := true }) 0x01 0x01) ∧
    (0 < 1 ∧ (LinkState.unlocking ≠ .polling)) ∧ LinkState.expectedKind .waitingToUnlock = some .status ∧
    (LinkState.waitingToUnlock ≠ .idle) :=
  ⟨fun _ _ _ _ => rfl, fun _ _ => ⟨rfl, rfl⟩, by decide, rfl, by decide⟩

/-- A handler that makes a call with no answer ready, and events behind it. -/
theorem test_witness_HandlersRunToCompletion :
    Handles { atWork (linked .polling true) with inbox := [.event .pollCall, .event .unlockCall] } .pollCall
      [.event .unlockCall] := rfl

/-- A command frame with a wrong checksum; a chunk of ten bytes, a good one of twelve, and one with a wrong checksum. -/
theorem test_witness_RequestsThatAreNoInstruction :
    (given idle (.request (.sent [0x57, 0x4B, 0x4C, 0x59, 0x09, 0x01, 0x82, 0x01, 0x83])) []).inbox =
      [.request (.sent [0x57, 0x4B, 0x4C, 0x59, 0x09, 0x01, 0x82, 0x01, 0x83])] ∧
    decode (.sent [0x57, 0x4B, 0x4C, 0x59, 0x09, 0x01, 0x82, 0x01, 0x83]) = .error .checksumMismatch ∧
    (given idle (.request (.received (goodBytes.take 10))) []).inbox = [.request (.received (goodBytes.take 10))] ∧
    decode (.received (goodBytes.take 10)) = .error .checksumMismatch ∧
    decode (.received (goodBytes ++ [0x00])) = .error (.trailingBytes 1) ∧
    decode (.received badBytes) = .error .checksumMismatch ∧ 11 ≤ idle.params.rxChunk := by decide

end Sys2Proof.Tests
end

section
/-! What each operation of the block can do, one lemma per operation with a choice; the others answer by rfl. -/

namespace Sys2Proof.Machine

/-- `TX.NEXT` gives the byte at the offset while busy and answers `empty` when idle (41_tx_encode.md R125, R126). -/
theorem exec_txNext_cases (s : State) :
    (s.tx.busy = false ∧ exec .txNext s = .next (s.reply .empty)) ∨
    (s.tx.busy = true ∧
      exec .txNext s = .next ((s.withTx s.tx.advance).reply (.byte (s.tx.byteAt s.tx.idx.val)))) := by
  cases h : s.tx.busy with
  | false => left; simp [exec, execTxNext, TxUnit.next_eq_none.2 h]
  | true => right; simp [exec, execTxNext, TxUnit.next_busy h]

/-- `RX.BYTE` is ignored in phase `Closed` and taken in phase `Open` (43_rx_verify_parse.md R156, R157). -/
theorem exec_rxByte_cases (d : Byte) (s : State) :
    (s.rx.phase = .closed ∧ exec (.rxByte d) s = .next (s.reply .nothing)) ∨
    (s.rx.phase = .opened ∧
      exec (.rxByte d) s = .next ((s.withRx (s.rx.accept s.params.rxChunk d)).reply .nothing)) := by
  cases h : s.rx.phase with
  | closed => left; simp [exec, execRxByte, h]
  | opened => right; simp [exec, execRxByte, h]

/-- `RX.END` repeats the held result in phase `Closed` and judges the chunk in phase `Open`
(43_rx_verify_parse.md R158, R159). -/
theorem exec_rxEnd_cases (s : State) :
    (s.rx.phase = .closed ∧ exec .rxEnd s = .next (s.reply (.result s.rx.result))) ∨
    (s.rx.phase = .opened ∧ exec .rxEnd s = endChunk s) := by
  cases h : s.rx.phase with
  | closed => left; simp [exec, execRxEnd, h]
  | opened => right; simp [exec, execRxEnd, h]

/-- A field selector that names a field names one of offsets 4 to 9 (30_encoding.md R87). -/
theorem fieldOffset_bounds {f : Byte} {i : Nat} (h : fieldOffset f = some i) : 4 ≤ i ∧ i ≤ 9 := by
  unfold fieldOffset at h
  split at h
  · cases h; omega
  · cases h

/-- `RD.FIELD` is refused, or reads a capture register after an `Ok` (45_system_ops.md R193). -/
theorem exec_rdField_cases (f : Byte) (s : State) :
    exec (.rdField f) s = .next s.refuse ∨
    ∃ i, fieldOffset f = some i ∧ s.rx.result = some .ok ∧
      ((s.rx.cap.read i = none ∧ exec (.rdField f) s = .fault .captureAbsent) ∨
        ∃ b, s.rx.cap.read i = some b ∧ exec (.rdField f) s = .next (s.reply (.byte b))) := by
  cases hf : fieldOffset f with
  | none => left; simp [exec, execRdField, hf]
  | some i =>
    by_cases hok : s.rx.result = some .ok
    · right
      cases hb : s.rx.cap.read i <;> simp [exec, execRdField, hf, hok, hb]
    · left; simp [exec, execRdField, hf, hok]

/-- `RD.CLASS` is refused, or classifies the captured fields after an `Ok` (44_response_classify.md R186, R187). -/
theorem exec_rdClass_cases (s : State) :
    exec .rdClass s = .next s.refuse ∨
    ∃ b c, s.ident.pair = some (b, c) ∧ s.rx.result = some .ok ∧
      ((s.rx.parsed = none ∧ exec .rdClass s = .fault .captureAbsent) ∨
        ∃ p, s.rx.parsed = some p ∧ exec .rdClass s = .next (s.reply (.classFlags (classFlags p b c)))) := by
  cases hid : s.ident.pair with
  | none => left; simp [exec, execRdClass, hid]
  | some bc =>
    by_cases hok : s.rx.result = some .ok
    · right
      refine ⟨bc.1, bc.2, rfl, hok, ?_⟩
      cases hp : s.rx.parsed <;> simp [exec, execRdClass, hid, hok, hp]
    · left; simp [exec, execRdClass, hid, hok]

end Sys2Proof.Machine
end

section
/-! In a good state every instruction completes (O38): a capture register that a verdict or a read looks at holds a byte
(93_implementation_defined.md U5). -/

namespace Sys2Proof.Machine

/-- The capture registers of the offsets already counted hold bytes (10_state.md R33, R37). -/
def RxUnit.Filled (rx : RxUnit) : Prop :=
  ∀ i, 4 ≤ i → i ≤ 10 → i < rx.cnt → ∃ d, rx.cap.read i = some d

theorem RxUnit.started_filled : RxUnit.started.Filled :=
  fun _ _ _ hlt => absurd hlt (Nat.not_lt_zero _)

/-- A byte that is counted is captured where its offset has a register (43_rx_verify_parse.md R156). -/
theorem RxUnit.accept_cap {rxChunk : Nat} {rx : RxUnit} (h : rx.cnt ≠ rxChunk) (d : Byte) :
    (rx.accept rxChunk d).cap = if 4 ≤ rx.cnt ∧ rx.cnt ≤ respLen - 1 then rx.cap.write rx.cnt d else rx.cap := by
  simp [RxUnit.accept, h]

theorem RxUnit.accept_filled {rx : RxUnit} (hrx : rx.Filled) (rxChunk : Nat) (d : Byte) :
    (rx.accept rxChunk d).Filled := by
  by_cases hfull : rx.cnt = rxChunk
  · rwa [RxUnit.accept_full hfull]
  intro i h4 h10 hlt
  rw [RxUnit.accept_cnt hfull] at hlt
  rw [RxUnit.accept_cap hfull]
  obtain rfl | hne := eq_or_ne i rx.cnt
  · exact ⟨d, by rw [if_pos ⟨h4, h10⟩, Captures.read_write_same _ _ _ h4 h10]⟩
  · obtain ⟨b, hb⟩ := hrx i h4 h10 (by omega)
    refine ⟨b, ?_⟩
    split
    · rw [Captures.read_write_other _ _ _ _ hne.symm, hb]
    · exact hb

theorem RxUnit.foldl_accept_filled (rxChunk : Nat) (bytes : List Byte) {rx : RxUnit} (hrx : rx.Filled) :
    (bytes.foldl (RxUnit.accept rxChunk) rx).Filled := by
  induction bytes generalizing rx with
  | nil => exact hrx
  | cons d bytes ih => exact ih (RxUnit.accept_filled hrx rxChunk d)

/-- With the counted bytes captured there is a verdict (43_rx_verify_parse.md R158). -/
theorem RxUnit.Filled.verdict_eq_some {rx : RxUnit} (hrx : rx.Filled) : ∃ v, rx.verdict = some v := by
  unfold RxUnit.verdict
  split
  · exact ⟨_, rfl⟩
  split
  · exact ⟨_, rfl⟩
  next hlen =>
    obtain ⟨x, hx⟩ := hrx (respLen - 1) (by decide) (by decide) (by simp only [respLen] at hlen ⊢; omega)
    exact ⟨_, by rw [hx]⟩

theorem endChunk_completes {s : State} (hrx : s.rx.Filled) : ∃ t, endChunk s = .next t := by
  obtain ⟨hnone, -⟩ | ⟨v, -, h⟩ := endChunk_cases s
  · obtain ⟨v, hv⟩ := hrx.verdict_eq_some
    simp [hnone] at hv
  · exact ⟨_, h⟩

/-- Receiving a whole chunk completes in every state, good or not. -/
theorem receiveChunk_completes (bytes : List Byte) (s : State) : ∃ t, receiveChunk bytes s = .next t :=
  endChunk_completes (RxUnit.foldl_accept_filled _ bytes RxUnit.started_filled)

theorem RxInv.filled {rxChunk : Nat} {rx : RxUnit} (h : RxInv rxChunk rx) : rx.Filled := by
  obtain ⟨bytes, hcnt, -, -, hcap, -, -⟩ := h
  intro i h4 h10 hlt
  have hi : i < bytes.length := by omega
  exact ⟨bytes[i], by rw [hcap i h4 h10, List.getElem?_eq_getElem hi]⟩

theorem verdictOf_eq_ok {r : Except VerificationError ParsedResponse} : verdictOf r = .ok ↔ ∃ p, r = .ok p := by
  cases r with
  | ok p => simp [verdictOf]
  | error e => cases e <;> simp [verdictOf]

/-- An `Ok` stands for a whole response, so every capture register holds its byte (10_state.md R35, R37). -/
theorem RxInv.read_of_ok {rxChunk : Nat} {rx : RxUnit} (h : RxInv rxChunk rx) (hok : rx.result = some .ok)
    {i : Nat} (h4 : 4 ≤ i) (h10 : i ≤ 10) : ∃ d, rx.cap.read i = some d := by
  obtain ⟨bytes, -, -, -, hcap, -, hresult⟩ := h
  obtain ⟨-, hv⟩ := hresult .ok hok
  obtain ⟨p, hp⟩ := verdictOf_eq_ok.1 hv.symm
  obtain ⟨-, hlen, -, -⟩ := verify_eq_ok.1 hp
  have hi : i < bytes.length := by simp only [respLen] at hlen; omega
  exact ⟨bytes[i], by rw [hcap i h4 h10, List.getElem?_eq_getElem hi]⟩

/-- After an `Ok` the view `parsed` is there (10_state.md R35). -/
theorem RxInv.parsed_of_ok {rxChunk : Nat} {rx : RxUnit} (h : RxInv rxChunk rx) (hok : rx.result = some .ok) :
    ∃ p, rx.parsed = some p := by
  obtain ⟨l, h4⟩ := h.read_of_ok hok (i := 4) (by omega) (by omega)
  obtain ⟨b, h5⟩ := h.read_of_ok hok (i := 5) (by omega) (by omega)
  obtain ⟨e, h6⟩ := h.read_of_ok hok (i := 6) (by omega) (by omega)
  obtain ⟨st, h7⟩ := h.read_of_ok hok (i := 7) (by omega) (by omega)
  obtain ⟨c, h8⟩ := h.read_of_ok hok (i := 8) (by omega) (by omega)
  obtain ⟨k, h9⟩ := h.read_of_ok hok (i := 9) (by omega) (by omega)
  refine ⟨responseFields l b e st c k, ?_⟩
  rw [RxUnit.parsed, if_pos hok]
  exact Captures.fields_eq_some.2 ⟨h4, h5, h6, h7, h8, h9⟩

/-- The RX invariant is all that an instruction needs to complete. -/
theorem exec_completes {s : State} (h : RxInv s.params.rxChunk s.rx) (i : Instr) : ∃ t, exec i s = .next t := by
  cases i with
  | rspUnlock l b st c k x => rw [exec_rspUnlock]; exact receiveChunk_completes _ s
  | rspStatus l b st c k x => rw [exec_rspStatus]; exact receiveChunk_completes _ s
  | rspOther l b e st c k x => rw [exec_rspOther]; exact receiveChunk_completes _ s
  | txNext => obtain ⟨-, h'⟩ | ⟨-, h'⟩ := exec_txNext_cases s <;> exact ⟨_, h'⟩
  | rxByte d => obtain ⟨-, h'⟩ | ⟨-, h'⟩ := exec_rxByte_cases d s <;> exact ⟨_, h'⟩
  | rxEnd =>
    obtain ⟨-, h'⟩ | ⟨-, h'⟩ := exec_rxEnd_cases s
    · exact ⟨_, h'⟩
    · rw [h']; exact endChunk_completes h.filled
  | rdField f =>
    obtain h' | ⟨i, hf, hok, ⟨hnone, -⟩ | ⟨b, -, h'⟩⟩ := exec_rdField_cases f s
    · exact ⟨_, h'⟩
    · obtain ⟨h4, h9⟩ := fieldOffset_bounds hf
      obtain ⟨d, hd⟩ := h.read_of_ok hok h4 (by omega)
      simp [hnone] at hd
    · exact ⟨_, h'⟩
  | rdClass =>
    obtain h' | ⟨b, c, -, hok, ⟨hnone, -⟩ | ⟨p, -, h'⟩⟩ := exec_rdClass_cases s
    · exact ⟨_, h'⟩
    · obtain ⟨p, hp⟩ := h.parsed_of_ok hok
      simp [hnone] at hp
    · exact ⟨_, h'⟩
  | _ => exact ⟨_, rfl⟩

/-- Settles O38: the only fault is an absent capture, which the RX invariant excludes. -/
theorem everyInstructionCompletesInGoodStates : Obligations.EveryInstructionCompletesInGoodStates := by
  intro i s ⟨_, hrx, _, _⟩
  exact exec_completes hrx i

end Sys2Proof.Machine
end

section
/-! What instructions and handlers leave unchanged, and with it that no step writes the parameters (O40). -/

namespace Sys2Proof.Machine

/-- The environment is the same: controller, parameters, actions and both kinds of input (10_state.md R20). -/
def SameEnvironment (s t : State) : Prop :=
  t.ctl = s.ctl ∧ t.params = s.params ∧ t.actions = s.actions ∧ t.inbox = s.inbox ∧ t.replies = s.replies

theorem endChunk_environment {s t : State} (h : endChunk s = .next t) : SameEnvironment s t := by
  obtain ⟨-, -, henv⟩ := endChunk_outside h
  exact henv

theorem receiveChunk_environment {bytes : List Byte} {s t : State} (h : receiveChunk bytes s = .next t) :
    SameEnvironment s t :=
  endChunk_environment (s := s.withRx (bytes.foldl (RxUnit.accept s.params.rxChunk) RxUnit.started)) h

theorem encodeCommand_environment (k : CommandKind) (s : State) : SameEnvironment s (encodeCommand k s) := by
  obtain ⟨-, h⟩ | ⟨b, c, -, h⟩ := encodeCommand_cases k s <;> simp [h, SameEnvironment]

theorem sendFrame_environment (k : CommandKind) (f : List Byte) (s : State) : SameEnvironment s (sendFrame k f s) := by
  obtain h | ⟨b, c, -, -, h⟩ := sendFrame_cases k f s <;> simp [h, SameEnvironment]

/-- No instruction touches the environment (10_state.md R20, 45_system_ops.md R195). -/
theorem exec_environment {i : Instr} {s t : State} (h : exec i s = .next t) : SameEnvironment s t := by
  cases i with
  | unlock b c x => cases h; exact sendFrame_environment _ _ s
  | status b c x => cases h; exact sendFrame_environment _ _ s
  | rspUnlock l b st c k x => rw [exec_rspUnlock] at h; exact receiveChunk_environment h
  | rspStatus l b st c k x => rw [exec_rspStatus] at h; exact receiveChunk_environment h
  | rspOther l b e st c k x => rw [exec_rspOther] at h; exact receiveChunk_environment h
  | encUnlock => cases h; exact encodeCommand_environment _ s
  | encStatus => cases h; exact encodeCommand_environment _ s
  | txNext =>
    obtain ⟨-, h'⟩ | ⟨-, h'⟩ := exec_txNext_cases s <;> cases h'.symm.trans h <;> simp [SameEnvironment]
  | rxByte d =>
    obtain ⟨-, h'⟩ | ⟨-, h'⟩ := exec_rxByte_cases d s <;> cases h'.symm.trans h <;> simp [SameEnvironment]
  | rxEnd =>
    obtain ⟨-, h'⟩ | ⟨-, h'⟩ := exec_rxEnd_cases s
    · cases h'.symm.trans h; simp [SameEnvironment]
    · exact endChunk_environment (h'.symm.trans h)
  | rdField f =>
    obtain h' | ⟨i, -, -, ⟨-, h'⟩ | ⟨b, -, h'⟩⟩ := exec_rdField_cases f s <;>
      cases h'.symm.trans h <;> simp [SameEnvironment]
  | rdClass =>
    obtain h' | ⟨b, c, -, -, ⟨-, h'⟩ | ⟨p, -, h'⟩⟩ := exec_rdClass_cases s <;>
      cases h'.symm.trans h <;> simp [SameEnvironment]
  | _ => cases h; simp [SameEnvironment]

/-- A request touches the environment no more than an instruction does, whether it decodes or not. -/
theorem runRequest_environment {r : Request} {s t : State} (h : runRequest r s = .next t) : SameEnvironment s t := by
  unfold runRequest at h
  split at h
  · exact exec_environment h
  · cases r with
    | port w => cases h; simp [SameEnvironment]
    | sent bytes => cases h; simp [SameEnvironment]
    | received bytes => exact receiveChunk_environment h

/-! The handlers. Composing a frame, acting to the outside and writing the controller's registers is all that a handler does
beside what its event itself brings. -/

/-- The state without what a handler may write: the TX unit, the controller and its actions. Two states with the same frame
agree in every other field (`handlerFrame_eq_iff`). -/
def State.handlerFrame (s : State) : State :=
  { s with tx := TxUnit.atReset, ctl := Controller.atStart, actions := [] }

@[simp] theorem State.handlerFrame_withTx (s : State) (x : TxUnit) : (s.withTx x).handlerFrame = s.handlerFrame := rfl
@[simp] theorem State.handlerFrame_withCtl (s : State) (c : Controller) :
    (s.withCtl c).handlerFrame = s.handlerFrame := rfl
@[simp] theorem State.handlerFrame_emit (s : State) (a : Action) : (s.emit a).handlerFrame = s.handlerFrame := rfl
@[simp] theorem State.handlerFrame_setLink (s : State) (l : LinkState) :
    (s.setLink l).handlerFrame = s.handlerFrame := rfl
@[simp] theorem State.handlerFrame_setRetry (s : State) (b : Bool) :
    (s.setRetry b).handlerFrame = s.handlerFrame := rfl

theorem State.handlerFrame_eq_iff {s t : State} :
    t.handlerFrame = s.handlerFrame ↔ t.ident = s.ident ∧ t.rx = s.rx ∧ t.params = s.params ∧ t.answer = s.answer ∧
      t.rxDone = s.rxDone ∧ t.inbox = s.inbox ∧ t.replies = s.replies := by
  simp [State.handlerFrame]

theorem State.params_eq_of_handlerFrame {s t : State} (h : t.handlerFrame = s.handlerFrame) : t.params = s.params := by
  obtain ⟨-, -, hp, -⟩ := State.handlerFrame_eq_iff.1 h
  exact hp

@[simp] theorem closePort_handlerFrame (s : State) : (closePort s).handlerFrame = s.handlerFrame := by
  unfold closePort; split <;> simp

@[simp] theorem attemptOpen_handlerFrame (s : State) : (attemptOpen s).1.handlerFrame = s.handlerFrame := rfl

@[simp] theorem hardReconnect_handlerFrame (s : State) : (hardReconnect s).1.handlerFrame = s.handlerFrame := by
  simp [hardReconnect]

@[simp] theorem failWrite_handlerFrame (s : State) : (failWrite s).1.handlerFrame = s.handlerFrame := by
  simp [failWrite]

@[simp] theorem startSend_handlerFrame (k : CommandKind) (s : State) :
    (startSend k s).1.handlerFrame = s.handlerFrame := by
  obtain ⟨-, h⟩ | ⟨b, c, -, h⟩ := startSend_cases k s
  · simp [h]
  · rw [h]; dsimp only; split <;> simp

@[simp] theorem sendExpected_handlerFrame (s : State) : (sendExpected s).1.handlerFrame = s.handlerFrame := by
  unfold sendExpected; split <;> simp

@[simp] theorem softRetry_handlerFrame (e : ErrorName) (s : State) :
    (softRetry e s).1.handlerFrame = s.handlerFrame := by
  simp [softRetry]

@[simp] theorem openFailed_handlerFrame (s : State) : (openFailed s).handlerFrame = s.handlerFrame := rfl

@[simp] theorem openSucceeded_handlerFrame (s : State) : (openSucceeded s).1.handlerFrame = s.handlerFrame := by
  unfold openSucceeded; dsimp only; split <;> simp

@[simp] theorem answered_handlerFrame (r : TransportReply) (c : TransportCall) (s : State) :
    (answered r c s).1.handlerFrame = s.handlerFrame := by
  cases c <;> cases r <;> simp [answered]

/-- Running a handler to its end changes the answers left, and what a handler may write. -/
theorem drive_handlerFrame (rs : List TransportReply) (h : Handling) :
    (drive rs h).handlerFrame = { h.1 with replies := (drive rs h).replies : State }.handlerFrame :=
  drive_keeps (P := fun h' => h'.1.handlerFrame = h.1.handlerFrame)
    (Q := fun t => t.handlerFrame = { h.1 with replies := t.replies : State }.handlerFrame)
    (fun _ rs' hs => congrArg (fun u : State => { u with replies := rs' }) hs)
    (fun s r c hs => (answered_handlerFrame r c s).trans hs) rs h rfl

theorem onUnlock_handlerFrame (s : State) : (onUnlock s).1.handlerFrame = s.handlerFrame := by
  unfold onUnlock; split <;> simp

theorem onPoll_handlerFrame (s : State) : (onPoll s).1.handlerFrame = s.handlerFrame := by
  simp [onPoll]

@[simp] theorem onAccept_handlerFrame (k : LockClass) (s : State) :
    (onAccept k s).1.handlerFrame = s.handlerFrame := by
  unfold onAccept; split <;> simp

@[simp] theorem onClassified_handlerFrame (c : Classification) (s : State) :
    (onClassified c s).1.handlerFrame = s.handlerFrame := by
  cases c <;> simp [onClassified]

@[simp] theorem onVerified_handlerFrame (s : State) : (onVerified s).1.handlerFrame = s.handlerFrame := by
  unfold onVerified; split <;> simp

theorem onRxDone_handlerFrame (v : Verdict) (s : State) : (onRxDone v s).1.handlerFrame = s.handlerFrame := by
  unfold onRxDone
  split
  · simp
  · cases v <;> simp

theorem onReconnectElapsed_handlerFrame (s : State) : (onReconnectElapsed s).1.handlerFrame = s.handlerFrame := by
  unfold onReconnectElapsed
  split
  · simp
  · dsimp only; split <;> simp

theorem onPollElapsed_handlerFrame (s : State) : (onPollElapsed s).1.handlerFrame = s.handlerFrame := by
  unfold onPollElapsed
  split
  · simp
  · dsimp only; split <;> simp

theorem onTransportError_handlerFrame (s : State) : (onTransportError s).1.handlerFrame = s.handlerFrame := by
  unfold onTransportError; split <;> simp

theorem onResponseOverdue_handlerFrame (s : State) : (onResponseOverdue s).1.handlerFrame = s.handlerFrame := by
  unfold onResponseOverdue; split <;> simp

theorem onData_params {bytes : List Byte} {s : State} {h : Handling} (hs : onData bytes s = .next h) :
    h.1.params = s.params := by
  unfold onData at hs
  split at hs
  next t ht =>
    obtain ⟨-, hp, -⟩ := receiveChunk_environment ht
    split at hs
    next v _ =>
      cases hs
      exact (State.params_eq_of_handlerFrame (onRxDone_handlerFrame v (t.answering .nothing))).trans hp
    next => cases hs; exact hp
  all_goals cases hs

/-- An event's handler keeps the parameters up to its first transport call. -/
theorem handle_params {e : Event} {s : State} {h : Handling} (hs : handle e s = .next h) : h.1.params = s.params := by
  cases e with
  | unlockCall => cases hs; exact State.params_eq_of_handlerFrame (onUnlock_handlerFrame s)
  | pollCall => cases hs; exact State.params_eq_of_handlerFrame (onPoll_handlerFrame s)
  | setBoardCall d => cases hs; rfl
  | setChannelCall d => cases hs; rfl
  | dataAvailable bytes => exact onData_params hs
  | reconnectElapsed => cases hs; exact State.params_eq_of_handlerFrame (onReconnectElapsed_handlerFrame s)
  | pollElapsed => cases hs; exact State.params_eq_of_handlerFrame (onPollElapsed_handlerFrame s)
  | transportError => cases hs; exact State.params_eq_of_handlerFrame (onTransportError_handlerFrame s)
  | responseOverdue => cases hs; exact State.params_eq_of_handlerFrame (onResponseOverdue_handlerFrame s)

theorem drive_params (rs : List TransportReply) (h : Handling) : (drive rs h).params = h.1.params :=
  State.params_eq_of_handlerFrame (s := { h.1 with replies := (drive rs h).replies }) (drive_handlerFrame rs h)

/-- An event's handler, whole, keeps the parameters (92_eei_decisions.md D28). -/
theorem handleEvent_params {e : Event} {s t : State} (h : handleEvent e s = .next t) : t.params = s.params := by
  unfold handleEvent at h
  split at h
  next g hg => cases h; rw [drive_params, handle_params hg]
  all_goals cases h

/-- Settles O40, by the input the step takes: none, a request, an event. -/
theorem parametersAreFixed : Obligations.ParametersAreFixed := by
  intro s t h
  obtain ⟨-, hs⟩ | ⟨r, rest, -, hs⟩ | ⟨e, rest, -, hs⟩ := step_cases s
  · cases hs.symm.trans h; rfl
  · obtain ⟨-, hp, -⟩ := runRequest_environment (hs.symm.trans h)
    exact hp
  · exact handleEvent_params (s := { s.quiet with inbox := rest }) (hs.symm.trans h)

end Sys2Proof.Machine
end

section
/-! Each instruction writes the registers of one group (O41). -/

namespace Sys2Proof.Machine

theorem encodeCommand_outside (k : CommandKind) (s : State) :
    (encodeCommand k s).ident = s.ident ∧ (encodeCommand k s).rx = s.rx := by
  obtain ⟨-, h⟩ | ⟨b, c, -, h⟩ := encodeCommand_cases k s <;> simp [h]

theorem sendFrame_outside (k : CommandKind) (f : List Byte) (s : State) :
    (sendFrame k f s).ident = s.ident ∧ (sendFrame k f s).rx = s.rx := by
  obtain h | ⟨b, c, -, -, h⟩ := sendFrame_cases k f s <;> simp [h]

theorem receiveChunk_outside {bytes : List Byte} {s t : State} (h : receiveChunk bytes s = .next t) :
    t.ident = s.ident ∧ t.tx = s.tx := by
  obtain ⟨hident, htx, -⟩ := endChunk_outside h
  exact ⟨hident, htx⟩

/-- A TX operation leaves the identity and the RX unit (10_state.md R20). -/
theorem exec_outside_tx {i : Instr} {s t : State} (hi : isTx i = true) (h : exec i s = .next t) :
    t.ident = s.ident ∧ t.rx = s.rx := by
  cases i with
  | unlock b c x => cases h; exact sendFrame_outside _ _ s
  | status b c x => cases h; exact sendFrame_outside _ _ s
  | encUnlock => cases h; exact encodeCommand_outside _ s
  | encStatus => cases h; exact encodeCommand_outside _ s
  | txNext => obtain ⟨-, h'⟩ | ⟨-, h'⟩ := exec_txNext_cases s <;> cases h'.symm.trans h <;> simp
  | _ => cases hi

/-- An RX operation leaves the identity and the TX unit (10_state.md R20). -/
theorem exec_outside_rx {i : Instr} {s t : State} (hi : isRx i = true) (h : exec i s = .next t) :
    t.ident = s.ident ∧ t.tx = s.tx := by
  cases i with
  | rspUnlock l b st c k x => rw [exec_rspUnlock] at h; exact receiveChunk_outside h
  | rspStatus l b st c k x => rw [exec_rspStatus] at h; exact receiveChunk_outside h
  | rspOther l b e st c k x => rw [exec_rspOther] at h; exact receiveChunk_outside h
  | rxStart => cases h; simp
  | rxByte d => obtain ⟨-, h'⟩ | ⟨-, h'⟩ := exec_rxByte_cases d s <;> cases h'.symm.trans h <;> simp
  | rxEnd =>
    obtain ⟨-, h'⟩ | ⟨-, h'⟩ := exec_rxEnd_cases s
    · cases h'.symm.trans h; simp
    · obtain ⟨hident, htx, -⟩ := endChunk_outside (h'.symm.trans h)
      exact ⟨hident, htx⟩
  | _ => cases hi

/-- `SETBOARD` and `SETCHAN` leave both units (10_state.md R20). -/
theorem exec_outside_ident {i : Instr} {s t : State} (hi : isIdent i = true) (h : exec i s = .next t) :
    t.tx = s.tx ∧ t.rx = s.rx := by
  cases i with
  | setBoard d => cases h; simp
  | setChan d => cases h; simp
  | _ => cases hi

/-- A read operation leaves every register of the block (20_memory.md R55). -/
theorem exec_outside_read {i : Instr} {s t : State} (hi : isRead i = true) (h : exec i s = .next t) :
    t.ident = s.ident ∧ t.tx = s.tx ∧ t.rx = s.rx := by
  cases i with
  | rdResult => cases h; simp
  | rdStat => cases h; simp
  | rdField f =>
    obtain h' | ⟨i, -, -, ⟨-, h'⟩ | ⟨b, -, h'⟩⟩ := exec_rdField_cases f s <;> cases h'.symm.trans h <;> simp
  | rdClass =>
    obtain h' | ⟨b, c, -, -, ⟨-, h'⟩ | ⟨p, -, h'⟩⟩ := exec_rdClass_cases s <;> cases h'.symm.trans h <;> simp
  | _ => cases hi

/-- The groups of instructions are all of them but `RESET` (10_state.md R20). -/
theorem isTx_or_isRx_or_isIdent_or_isRead_or_reset (i : Instr) :
    isTx i = true ∨ isRx i = true ∨ isIdent i = true ∨ isRead i = true ∨ i = .reset := by
  cases i <;> simp [isTx, isRx, isIdent, isRead]

/-- Settles O41, group by group. -/
theorem instructionsStayInTheirGroup : Obligations.InstructionsStayInTheirGroup := by
  intro i s t h
  exact ⟨exec_environment h, fun hi => exec_outside_tx hi h, fun hi => exec_outside_rx hi h,
    fun hi => exec_outside_ident hi h, fun hi => exec_outside_read hi h,
    isTx_or_isRx_or_isIdent_or_isRead_or_reset i⟩

end Sys2Proof.Machine
end

section
/-! The invariants of the block's two units (10_state.md R27, R37): they hold at reset and every instruction keeps
them. -/

namespace Sys2Proof

/-- The XOR of one more byte (40_checksum.md R100). -/
theorem xorfold_concat (s : List Byte) (d : Byte) : xorfold (s ++ [d]) = xorfold s ^^^ d := by
  induction s with
  | nil => simp
  | cons b s ih => simp [ih, BitVec.xor_assoc]

/-- One more byte enters the XOR of the first `n` bytes while there are fewer than `n`. -/
theorem xorfold_take_concat (n : Nat) (s : List Byte) (d : Byte) :
    xorfold ((s ++ [d]).take n) = if s.length < n then xorfold (s.take n) ^^^ d else xorfold (s.take n) := by
  split
  next h => rw [List.take_of_length_le (by simp; omega), List.take_of_length_le h.le, xorfold_concat]
  next h => rw [List.take_append_of_le_length (by omega)]

/-- The bytes so far agree with the magic header as far as both go (10_state.md R37). -/
def HeaderSoFar (s : List Byte) : Prop := ∀ i, i < min s.length 4 → s[i]? = some (magicAt i)

theorem headerSoFar_nil : HeaderSoFar [] := fun i hi => by simp at hi

/-- One more byte is compared while it belongs to the header (42_rx_header_detect.md R141). -/
theorem headerSoFar_concat {s : List Byte} {d : Byte} :
    HeaderSoFar (s ++ [d]) ↔ HeaderSoFar s ∧ (s.length < 4 → d = magicAt s.length) := by
  constructor
  · intro h
    refine ⟨fun i hi => ?_, fun hlen => ?_⟩
    · rw [← h i (by simp; omega), List.getElem?_append_left (by omega)]
    · simpa using h s.length (by simp; omega)
  · rintro ⟨hs, hd⟩ i hi
    obtain hlt | rfl : i < s.length ∨ i = s.length := by simp at hi; omega
    · rw [List.getElem?_append_left hlt, hs i (by omega)]
    · simp [hd (by omega)]

/-- The header matches when it is there whole and agrees so far (42_rx_header_detect.md R140, R142). -/
theorem hdrMatch_iff {s : List Byte} : hdrMatch s = true ↔ 4 ≤ s.length ∧ HeaderSoFar s := by
  match s with
  | [] | [_] | [_, _] | [_, _, _] => simp [hdrMatch, magic]
  | a :: b :: c :: d :: s =>
    have hagree : HeaderSoFar (a :: b :: c :: d :: s) ↔ a = 0x57 ∧ b = 0x4B ∧ c = 0x4C ∧ d = 0x59 := by
      constructor
      · intro h
        exact ⟨Option.some.inj (h 0 (by simp)), Option.some.inj (h 1 (by simp)), Option.some.inj (h 2 (by simp)),
          Option.some.inj (h 3 (by simp))⟩
      · rintro ⟨rfl, rfl, rfl, rfl⟩ i hi
        have hi4 : i < 4 := by omega
        interval_cases i <;> rfl
    simp [hagree, hdrMatch, magic]

end Sys2Proof

namespace Sys2Proof.Machine

/-! The TX unit. -/

theorem TxInv.atReset : TxInv TxUnit.atReset := ⟨fun _ => ⟨rfl, rfl⟩, nofun⟩

theorem TxInv.latch (k : CommandKind) (b c : Byte) : TxInv (TxUnit.latch k b c) :=
  ⟨nofun, fun _ => ⟨by cases k <;> simp [TxUnit.latch, CommandKind.op], rfl⟩⟩

theorem TxInv.sent (k : CommandKind) (b c : Byte) :
    TxInv { busy := false, idx := 0, board := b, cmd := k.op, chan := c, xor := 0x00 } :=
  ⟨fun _ => ⟨rfl, rfl⟩, nofun⟩

/-- The bytes whose XOR the TX unit accumulates (10_state.md R27). -/
def TxUnit.body (tx : TxUnit) : List Byte := magic ++ [0x09, tx.board, tx.cmd, tx.chan]

/-- Below the checksum, the byte at an offset is that byte of the frame's body (41_tx_encode.md R125). -/
theorem TxUnit.body_take_succ (tx : TxUnit) {i : Nat} (hi : i ≤ 7) :
    tx.body.take (i + 1) = tx.body.take i ++ [tx.byteAt i] := by
  interval_cases i <;> rfl

theorem TxInv.advance {tx : TxUnit} (h : TxInv tx) (hbusy : tx.busy = true) : TxInv tx.advance := by
  obtain ⟨hcmd, hxor⟩ := h.2 hbusy
  by_cases hidx : tx.idx.val ≤ 7
  · rw [TxUnit.advance_body hidx]
    refine ⟨fun hidle => ?_, fun _ => ⟨hcmd, ?_⟩⟩
    · simp [hbusy] at hidle
    · calc tx.xor ^^^ tx.byteAt tx.idx.val
          = xorfold (tx.body.take tx.idx.val ++ [tx.byteAt tx.idx.val]) := by rw [xorfold_concat, hxor]; rfl
        _ = xorfold (tx.body.take (tx.idx.val + 1)) := by rw [TxUnit.body_take_succ tx hidx]
  · rw [TxUnit.advance_last hidx]
    exact ⟨fun _ => ⟨rfl, rfl⟩, nofun⟩

theorem encodeCommand_txInv (k : CommandKind) {s : State} (h : TxInv s.tx) : TxInv (encodeCommand k s).tx := by
  obtain ⟨-, h'⟩ | ⟨b, c, -, h'⟩ := encodeCommand_cases k s
  · simpa [h'] using h
  · simpa [h'] using TxInv.latch k b c

theorem sendFrame_txInv (k : CommandKind) (f : List Byte) {s : State} (h : TxInv s.tx) :
    TxInv (sendFrame k f s).tx := by
  obtain h' | ⟨b, c, -, -, h'⟩ := sendFrame_cases k f s
  · simpa [h'] using h
  · simpa [h'] using TxInv.sent k b c

/-- Every instruction keeps the TX invariant (10_state.md R27). -/
theorem exec_txInv {i : Instr} {s t : State} (hs : TxInv s.tx) (h : exec i s = .next t) : TxInv t.tx := by
  cases i with
  | unlock b c x => cases h; exact sendFrame_txInv _ _ hs
  | status b c x => cases h; exact sendFrame_txInv _ _ hs
  | encUnlock => cases h; exact encodeCommand_txInv _ hs
  | encStatus => cases h; exact encodeCommand_txInv _ hs
  | txNext =>
    obtain ⟨-, h'⟩ | ⟨hbusy, h'⟩ := exec_txNext_cases s <;> cases h'.symm.trans h
    · exact hs
    · exact hs.advance hbusy
  | reset => cases h; exact TxInv.atReset
  | setBoard | setChan => obtain ⟨htx, -⟩ := exec_outside_ident rfl h; rwa [htx]
  | rdResult | rdField | rdClass | rdStat => obtain ⟨-, htx, -⟩ := exec_outside_read rfl h; rwa [htx]
  | _ => obtain ⟨-, htx⟩ := exec_outside_rx rfl h; rwa [htx]

/-! The RX unit. -/

theorem RxHistory.atReset (rxChunk : Nat) : RxHistory rxChunk [] RxUnit.atReset :=
  ⟨by simp [RxUnit.atReset], by simp [RxUnit.atReset], rfl, by simp [RxUnit.atReset], by simp [RxUnit.atReset],
    by simp [RxUnit.atReset]⟩

theorem RxHistory.started (rxChunk : Nat) : RxHistory rxChunk [] RxUnit.started :=
  ⟨by simp [RxUnit.started], by simp [RxUnit.started], rfl, by simp [RxUnit.started], by simp [RxUnit.started],
    by simp [RxUnit.started]⟩

theorem RxUnit.accept_hdrOk {rxChunk : Nat} {rx : RxUnit} (h : rx.cnt ≠ rxChunk) (d : Byte) :
    (rx.accept rxChunk d).hdrOk = if rx.cnt ≤ 3 then rx.hdrOk && d == magicAt rx.cnt else rx.hdrOk := by
  simp [RxUnit.accept, h, hdCmp]

theorem RxUnit.accept_xor {rxChunk : Nat} {rx : RxUnit} (h : rx.cnt ≠ rxChunk) (d : Byte) :
    (rx.accept rxChunk d).xor = if rx.cnt ≤ respLen - 2 then rx.xor ^^^ d else rx.xor := by
  simp [RxUnit.accept, h]

/-- The verdict of `verify` by its clauses (43_rx_verify_parse.md R150). -/
theorem verdictOf_verify (s : List Byte) :
    verdictOf (verify s) =
      if hdrMatch s = false then .headerMismatch
      else if s.length < respLen then .checksumMismatch
      else if s[respLen - 1]? = some (xorfold (s.take (respLen - 1))) then .ok
      else .checksumMismatch := by
  unfold verify
  split_ifs <;> simp_all [verdictOf]

section
variable {rxChunk : Nat} {s : List Byte} {rx : RxUnit}

/-- A byte dropped at the end of a full chunk is one the registers do not tell of (43_rx_verify_parse.md R156). -/
theorem RxHistory.concat_full (h : RxHistory rxChunk s rx) (hopen : rx.phase = .opened) (hlen : respLen ≤ rxChunk)
    (hfull : rx.cnt = rxChunk) (d : Byte) : RxHistory rxChunk (s ++ [d]) rx := by
  obtain ⟨hcnt, hhdr, hxor, hcap, hnone, -⟩ := h
  simp only [respLen] at hlen hxor
  have hs : 11 ≤ s.length := by omega
  refine ⟨by simp; omega, hhdr.trans ?_, ?_, fun i h4 h10 => ?_, hnone, fun v hv => ?_⟩
  · exact Iff.trans (and_iff_left (fun hlt => by omega)).symm headerSoFar_concat.symm
  · rw [xorfold_take_concat, if_neg (by simp only [respLen]; omega), hxor]; rfl
  · rw [hcap i h4 h10, List.getElem?_append_left (by omega)]
  · simp [hnone hopen] at hv

/-- A byte counted goes where its offset says (43_rx_verify_parse.md R156). -/
theorem RxHistory.accept_counted (h : RxHistory rxChunk s rx) (hopen : rx.phase = .opened)
    (hroom : rx.cnt ≠ rxChunk) (d : Byte) : RxHistory rxChunk (s ++ [d]) (rx.accept rxChunk d) := by
  obtain ⟨hcnt, hhdr, hxor, hcap, hnone, -⟩ := h
  have hs : rx.cnt = s.length := by omega
  refine ⟨?_, ?_, ?_, fun i h4 h10 => ?_, fun _ => ?_, fun v hv => ?_⟩
  · rw [RxUnit.accept_cnt hroom]; simp; omega
  · rw [RxUnit.accept_hdrOk hroom]
    refine Iff.trans ?_ headerSoFar_concat.symm
    rw [← show rx.hdrOk = true ↔ HeaderSoFar s from hhdr, hs]
    split
    next hlt => simp [Nat.lt_succ_of_le hlt]
    next hge => simp [show ¬ s.length < 4 by omega]
  · rw [RxUnit.accept_xor hroom, xorfold_take_concat, hxor, hs]
    exact if_congr Nat.lt_succ_iff.symm rfl rfl
  · rw [RxUnit.accept_cap hroom]
    obtain rfl | hne := eq_or_ne i s.length
    · rw [hs, if_pos ⟨h4, h10⟩, Captures.read_write_same _ _ _ h4 h10]; simp
    · have hcaps : rx.cap.read i = (s ++ [d])[i]? := by
        rw [hcap i h4 h10]
        obtain hlt | hgt := lt_or_gt_of_ne hne
        · rw [List.getElem?_append_left hlt]
        · rw [List.getElem?_eq_none hgt.le, List.getElem?_eq_none (by simpa using hgt)]
      split
      · rw [Captures.read_write_other _ _ _ _ (by omega), hcaps]
      · exact hcaps
  · rw [RxUnit.accept_result, hnone hopen]
  · simp [hnone hopen] at hv

theorem RxHistory.accept (h : RxHistory rxChunk s rx) (hopen : rx.phase = .opened) (hlen : respLen ≤ rxChunk)
    (d : Byte) : RxHistory rxChunk (s ++ [d]) (rx.accept rxChunk d) := by
  by_cases hfull : rx.cnt = rxChunk
  · rw [RxUnit.accept_full hfull]; exact h.concat_full hopen hlen hfull d
  · exact h.accept_counted hopen hfull d

theorem RxHistory.foldl_accept (h : RxHistory rxChunk s rx) (hopen : rx.phase = .opened) (hlen : respLen ≤ rxChunk)
    (bytes : List Byte) : RxHistory rxChunk (s ++ bytes) (bytes.foldl (RxUnit.accept rxChunk) rx) := by
  induction bytes generalizing s rx with
  | nil => simpa using h
  | cons d bytes ih =>
    rw [List.append_cons]
    exact ih (h.accept hopen hlen d) (by simpa using hopen)

/-- The verdict on a chunk is that of `verify` on its bytes (43_rx_verify_parse.md R160). -/
theorem RxHistory.verdict_eq (h : RxHistory rxChunk s rx) (hlen : respLen ≤ rxChunk) :
    rx.verdict = some (verdictOf (verify s)) := by
  obtain ⟨hcnt, hhdr, hxor, hcap, -, -⟩ := h
  have hmatch : hdrMatch s = true ↔ 4 ≤ rx.cnt ∧ rx.hdrOk = true := by
    rw [hdrMatch_iff, hhdr]
    simp only [respLen] at hlen
    exact and_congr_left' (by omega)
  have hshort : rx.cnt < respLen ↔ s.length < respLen := by omega
  rw [verdictOf_verify]
  unfold RxUnit.verdict
  by_cases hm : hdrMatch s = true
  · obtain ⟨h4, hok⟩ := hmatch.1 hm
    by_cases hl : s.length < respLen
    · simp [hm, hok, h4.not_gt, hshort, hl]
    · have hsum : s[respLen - 1]? = some s[respLen - 1] := List.getElem?_eq_getElem _
      have hx : rx.cap.read (respLen - 1) = some s[respLen - 1] := by
        rw [hcap _ (by decide) (by decide), hsum]
      simp [hm, hok, h4.not_gt, hshort, hl, hx, hxor, hsum, ite_not]
  · have hbad : rx.cnt < 4 ∨ rx.hdrOk = false := by
      by_contra hno
      simp only [not_or, Bool.not_eq_false, not_lt] at hno
      exact hm (hmatch.2 hno)
    simp [hm, hbad]

/-- The verdict of `verify` closes the chunk (43_rx_verify_parse.md R158). -/
theorem RxHistory.closed (h : RxHistory rxChunk s rx) :
    RxHistory rxChunk s { rx with result := some (verdictOf (verify s)), phase := .closed } := by
  obtain ⟨hcnt, hhdr, hxor, hcap, -, -⟩ := h
  refine ⟨hcnt, hhdr, hxor, hcap, nofun, fun v hv => ⟨rfl, ?_⟩⟩
  cases hv; rfl

end

theorem endChunk_history {bytes : List Byte} {s t : State} (hs : RxHistory s.params.rxChunk bytes s.rx)
    (hlen : respLen ≤ s.params.rxChunk) (h : endChunk s = .next t) : RxHistory t.params.rxChunk bytes t.rx := by
  obtain ⟨-, h'⟩ | ⟨v, hv, h'⟩ := endChunk_cases s <;> cases h'.symm.trans h
  cases hv.symm.trans (hs.verdict_eq hlen)
  exact hs.closed

theorem receiveChunk_history {bytes : List Byte} {s t : State} (hlen : respLen ≤ s.params.rxChunk)
    (h : receiveChunk bytes s = .next t) : RxHistory t.params.rxChunk bytes t.rx :=
  endChunk_history (s := s.withRx (bytes.foldl (RxUnit.accept s.params.rxChunk) RxUnit.started))
    ((RxHistory.started _).foldl_accept rfl hlen bytes) hlen h

/-- Every instruction keeps the RX invariant (10_state.md R37). -/
theorem exec_rxInv {i : Instr} {s t : State} (hs : RxInv s.params.rxChunk s.rx) (hlen : respLen ≤ s.params.rxChunk)
    (h : exec i s = .next t) : RxInv t.params.rxChunk t.rx := by
  obtain ⟨-, hparams, -⟩ := exec_environment h
  have hkeep (hrx : t.rx = s.rx) : RxInv t.params.rxChunk t.rx := by rwa [hparams, hrx]
  cases i with
  | rspUnlock l b st c k x => rw [exec_rspUnlock] at h; exact ⟨_, receiveChunk_history hlen h⟩
  | rspStatus l b st c k x => rw [exec_rspStatus] at h; exact ⟨_, receiveChunk_history hlen h⟩
  | rspOther l b e st c k x => rw [exec_rspOther] at h; exact ⟨_, receiveChunk_history hlen h⟩
  | rxStart => cases h; exact ⟨[], RxHistory.started _⟩
  | rxByte d =>
    obtain ⟨-, h'⟩ | ⟨hopen, h'⟩ := exec_rxByte_cases d s <;> cases h'.symm.trans h
    · exact hs
    · obtain ⟨bytes, hbytes⟩ := hs
      exact ⟨bytes ++ [d], hbytes.accept hopen hlen d⟩
  | rxEnd =>
    obtain ⟨-, h'⟩ | ⟨-, h'⟩ := exec_rxEnd_cases s
    · cases h'.symm.trans h; exact hs
    · obtain ⟨bytes, hbytes⟩ := hs
      exact ⟨bytes, endChunk_history hbytes hlen (h'.symm.trans h)⟩
  | reset => cases h; exact ⟨[], RxHistory.atReset _⟩
  | setBoard | setChan => obtain ⟨-, hrx⟩ := exec_outside_ident rfl h; exact hkeep hrx
  | rdResult | rdField | rdClass | rdStat => obtain ⟨-, -, hrx⟩ := exec_outside_read rfl h; exact hkeep hrx
  | _ => obtain ⟨-, hrx⟩ := exec_outside_tx rfl h; exact hkeep hrx

end Sys2Proof.Machine
end

section
/-! Good states stay good (O36, O37): the invariant of the controller while a handler runs, and the step. -/

namespace Sys2Proof.Machine

/-! What the parts of a handler do to the two groups of registers that a handler may write. -/

@[simp] theorem closePort_tx (s : State) : (closePort s).tx = s.tx := by
  unfold closePort; split <;> rfl

@[simp] theorem closePort_ctl (s : State) : (closePort s).ctl = { s.ctl with portOpen := false } := by
  unfold closePort
  split
  · rfl
  next h => cases hc : s.ctl; simp_all

/-- A hard reconnect closes the port, sets the retry flag and asks for the port (46_host_link_controller.md R226). -/
theorem hardReconnect_eq (s : State) :
    hardReconnect s = (closePort ((s.emit .linkError).setRetry true)).calls .openPort := rfl

/-- What holds of a handler under way: the invariants of the TX unit and the controller; while the transport is asked,
the link state is not `Idle`; and while it is asked to open the port, the port is closed (46_host_link_controller.md
R216, R226, R227). -/
def GoodHandling (h : Handling) : Prop :=
  TxInv h.1.tx ∧ CtlInv h.1.ctl ∧ (∀ c, h.2 = some c → h.1.ctl.link ≠ .idle) ∧
    (h.2 = some .openPort → h.1.ctl.portOpen = false)

section
variable {s : State}

theorem CtlInv.of_closed {c : Controller} (h : c.portOpen = false) : CtlInv c :=
  ⟨fun _ => h, fun hopen => by simp [h] at hopen⟩

/-- The link state may change to any other than `Idle` (46_host_link_controller.md R216). -/
theorem CtlInv.withLink {c : Controller} (h : CtlInv c) {l : LinkState} (hl : l ≠ .idle) :
    CtlInv { c with link := l } :=
  ⟨fun hidle => absurd hidle hl, h.2⟩

theorem GoodHandling.ends (htx : TxInv s.tx) (hctl : CtlInv s.ctl) : GoodHandling s.ends :=
  ⟨htx, hctl, nofun, nofun⟩

theorem GoodHandling.write (htx : TxInv s.tx) (hctl : CtlInv s.ctl) (hlink : s.ctl.link ≠ .idle) (f : List Byte) :
    GoodHandling (s.calls (.write f)) :=
  ⟨htx, hctl, fun _ _ => hlink, nofun⟩

theorem GoodHandling.openPort (htx : TxInv s.tx) (hlink : s.ctl.link ≠ .idle) (hport : s.ctl.portOpen = false) :
    GoodHandling (s.calls .openPort) :=
  ⟨htx, .of_closed hport, fun _ _ => hlink, fun _ => hport⟩

theorem hardReconnect_good (htx : TxInv s.tx) (hlink : s.ctl.link ≠ .idle) : GoodHandling (hardReconnect s) := by
  rw [hardReconnect_eq]
  exact .openPort (by simpa using htx) (by simpa using hlink) (by simp)

theorem failWrite_good (htx : TxInv s.tx) (hlink : s.ctl.link ≠ .idle) : GoodHandling (failWrite s) :=
  hardReconnect_good (s := s.emit _) htx hlink

theorem startSend_good (htx : TxInv s.tx) (hctl : CtlInv s.ctl) (hlink : s.ctl.link ≠ .idle) (k : CommandKind) :
    GoodHandling (startSend k s) := by
  obtain ⟨-, h⟩ | ⟨b, c, -, h⟩ := startSend_cases k s
  · rw [h]; exact .ends htx hctl
  · rw [h]
    dsimp only
    split
    · exact .write (s := s.withTx _) (TxInv.sent k b c) hctl hlink _
    · exact failWrite_good (s := s.withTx _) (TxInv.sent k b c) hlink

/-- A send after the link state has changed to any other than `Idle`. -/
theorem startSend_setLink_good (htx : TxInv s.tx) (hctl : CtlInv s.ctl) {l : LinkState} (hl : l ≠ .idle)
    (k : CommandKind) : GoodHandling (startSend k (s.setLink l)) :=
  startSend_good (s := s.setLink l) htx (hctl.withLink hl) hl k

/-- Only `Idle` expects no response (46_host_link_controller.md R208). -/
theorem LinkState.ne_idle_of_expectedKind {l : LinkState} {k : CommandKind} (h : l.expectedKind = some k) :
    l ≠ .idle := by
  rintro rfl; cases h

theorem sendExpected_good (htx : TxInv s.tx) (hctl : CtlInv s.ctl) : GoodHandling (sendExpected s) := by
  unfold sendExpected
  split
  · exact .ends htx hctl
  next k hk => exact startSend_good htx hctl (LinkState.ne_idle_of_expectedKind hk) k

theorem softRetry_good (htx : TxInv s.tx) (hctl : CtlInv s.ctl) (e : ErrorName) : GoodHandling (softRetry e s) :=
  sendExpected_good (s := s.emit _) htx hctl

/-- Opening the port clears the retry flag (46_host_link_controller.md R227). -/
theorem openSucceeded_good (htx : TxInv s.tx) (hlink : s.ctl.link ≠ .idle) : GoodHandling (openSucceeded s) := by
  unfold openSucceeded
  dsimp only
  split
  · exact sendExpected_good htx ⟨fun hidle => absurd hidle hlink, fun _ => rfl⟩
  next hretry => exact .ends htx ⟨fun hidle => absurd hidle hlink, fun _ => by simpa using hretry⟩

theorem answered_good {c : TransportCall} (h : GoodHandling (s.calls c)) (r : TransportReply) :
    GoodHandling (answered r c s) := by
  obtain ⟨htx, hctl, hasking, hport⟩ := h
  have hlink : s.ctl.link ≠ .idle := hasking c rfl
  match c, r with
  | .openPort, .succeeded => exact openSucceeded_good htx hlink
  | .openPort, .failed => exact .ends htx (.of_closed (hport rfl))
  | .write f, .succeeded => exact .ends htx hctl
  | .write f, .failed => exact failWrite_good htx hlink

/-- Run to its end, a handler leaves the TX unit and the controller in their invariants. -/
theorem drive_good {h : Handling} (hh : GoodHandling h) (rs : List TransportReply) :
    TxInv (drive rs h).tx ∧ CtlInv (drive rs h).ctl :=
  drive_keeps (P := GoodHandling) (Q := fun t => TxInv t.tx ∧ CtlInv t.ctl)
    (fun _ _ ⟨htx, hctl, _, _⟩ => ⟨htx, hctl⟩) (fun _ r _ hs => answered_good hs r) rs h hh

/-! The handlers of the events. -/

theorem onUnlock_good (htx : TxInv s.tx) (hctl : CtlInv s.ctl) : GoodHandling (onUnlock s) := by
  unfold onUnlock
  split
  · exact .openPort (by simpa using htx) (by simp) (by simp)
  · exact .ends htx hctl

theorem onPoll_good (htx : TxInv s.tx) (hctl : CtlInv s.ctl) : GoodHandling (onPoll s) :=
  startSend_setLink_good htx hctl (by decide) .status

theorem onAccept_good (htx : TxInv s.tx) (hctl : CtlInv s.ctl) (k : LockClass) : GoodHandling (onAccept k s) := by
  unfold onAccept
  split
  · exact startSend_setLink_good htx hctl (by decide) .status
  · exact startSend_setLink_good htx hctl (by decide) .status
  · exact startSend_setLink_good htx hctl (by decide) .status
  next hlink => exact startSend_good htx hctl (by simp [hlink]) _
  · exact .ends htx hctl
  · exact .ends (by simpa using htx) (.of_closed (by simp))
  · exact .ends htx hctl
  · exact .ends htx hctl

theorem onVerified_good (htx : TxInv s.tx) (hctl : CtlInv s.ctl) : GoodHandling (onVerified s) := by
  unfold onVerified
  split
  next k p b c _ _ _ =>
    cases classifyFlags (classFlags p b c) k with
    | accept q => exact onAccept_good htx hctl q
    | addressMismatch | commandMismatch | statusError | unknownLockStatus => exact softRetry_good htx hctl _
  · exact .ends htx hctl

theorem onRxDone_good (htx : TxInv s.tx) (hctl : CtlInv s.ctl) (v : Verdict) : GoodHandling (onRxDone v s) := by
  unfold onRxDone
  split
  · exact .ends htx hctl
  · cases v with
    | ok => exact onVerified_good htx hctl
    | headerMismatch | checksumMismatch => exact softRetry_good htx hctl _

theorem onReconnectElapsed_good (htx : TxInv s.tx) (hctl : CtlInv s.ctl) : GoodHandling (onReconnectElapsed s) := by
  unfold onReconnectElapsed
  split
  · exact .ends htx hctl
  · dsimp only
    split
    next h => exact .openPort htx h.1 h.2
    · exact .ends htx hctl

theorem onPollElapsed_good (htx : TxInv s.tx) (hctl : CtlInv s.ctl) : GoodHandling (onPollElapsed s) := by
  unfold onPollElapsed
  split
  · exact .ends htx hctl
  · dsimp only
    split
    next h =>
      exact startSend_good (s := s.withCtl { s.ctl with pollTimers := s.ctl.pollTimers - 1 }) htx hctl
        (ne_of_eq_of_ne h (by decide)) .status
    · exact .ends htx hctl

theorem onTransportError_good (htx : TxInv s.tx) (hctl : CtlInv s.ctl) : GoodHandling (onTransportError s) := by
  unfold onTransportError
  split
  · exact .ends htx hctl
  next hlink => exact hardReconnect_good htx hlink

theorem onResponseOverdue_good (htx : TxInv s.tx) (hctl : CtlInv s.ctl) : GoodHandling (onResponseOverdue s) := by
  unfold onResponseOverdue
  split
  · exact sendExpected_good htx hctl
  · exact .ends htx hctl

end

/-! A read event is one chunk. -/

/-- A read event's handler starts after its chunk has been received, in a state with the chunk's registers. -/
theorem onData_cases {bytes : List Byte} {s : State} {h : Handling} (hs : onData bytes s = .next h) :
    ∃ t, receiveChunk (bytes.take s.params.rxChunk) s = .next t ∧
      (h = t.ends ∨ ∃ v, t.rxDone = some v ∧ h = onRxDone v (t.answering .nothing)) := by
  unfold onData at hs
  split at hs
  next t ht =>
    split at hs
    next v hv => cases hs; exact ⟨t, ht, .inr ⟨v, hv, rfl⟩⟩
    next => cases hs; exact ⟨t, ht, .inl rfl⟩
  all_goals cases hs

theorem onData_good {bytes : List Byte} {s : State} {h : Handling} (htx : TxInv s.tx) (hctl : CtlInv s.ctl)
    (hs : onData bytes s = .next h) : GoodHandling h := by
  obtain ⟨t, ht, hh⟩ := onData_cases hs
  obtain ⟨-, htx'⟩ := receiveChunk_outside ht
  obtain ⟨hctl', -⟩ := receiveChunk_environment ht
  rw [← htx'] at htx
  rw [← hctl'] at hctl
  obtain rfl | ⟨v, -, rfl⟩ := hh
  · exact .ends htx hctl
  · exact onRxDone_good (s := t.answering .nothing) htx hctl v

theorem onData_rxInv {bytes : List Byte} {s : State} {h : Handling} (hlen : respLen ≤ s.params.rxChunk)
    (hs : onData bytes s = .next h) : RxInv h.1.params.rxChunk h.1.rx := by
  obtain ⟨t, ht, hh⟩ := onData_cases hs
  have hrx : RxInv t.params.rxChunk t.rx := ⟨_, receiveChunk_history hlen ht⟩
  obtain rfl | ⟨v, -, rfl⟩ := hh
  · exact hrx
  · obtain ⟨-, hrx', hparams', -⟩ := State.handlerFrame_eq_iff.1 (onRxDone_handlerFrame v (t.answering .nothing))
    rw [hrx', hparams']
    exact hrx

/-! Events, requests and the step. -/

theorem handle_good {e : Event} {s : State} {h : Handling} (htx : TxInv s.tx) (hctl : CtlInv s.ctl)
    (hs : handle e s = .next h) : GoodHandling h := by
  cases e with
  | dataAvailable bytes => exact onData_good htx hctl hs
  | unlockCall => cases hs; exact onUnlock_good htx hctl
  | pollCall => cases hs; exact onPoll_good htx hctl
  | setBoardCall d => cases hs; exact .ends htx hctl
  | setChannelCall d => cases hs; exact .ends htx hctl
  | reconnectElapsed => cases hs; exact onReconnectElapsed_good htx hctl
  | pollElapsed => cases hs; exact onPollElapsed_good htx hctl
  | transportError => cases hs; exact onTransportError_good htx hctl
  | responseOverdue => cases hs; exact onResponseOverdue_good htx hctl

theorem rxInv_of_handlerFrame {s t : State} (hs : RxInv s.params.rxChunk s.rx) (h : t.handlerFrame = s.handlerFrame) :
    RxInv t.params.rxChunk t.rx := by
  obtain ⟨-, hrx, hparams, -⟩ := State.handlerFrame_eq_iff.1 h
  rwa [hrx, hparams]

theorem handle_rxInv {e : Event} {s : State} {h : Handling} (hrx : RxInv s.params.rxChunk s.rx)
    (hlen : respLen ≤ s.params.rxChunk) (hs : handle e s = .next h) : RxInv h.1.params.rxChunk h.1.rx := by
  cases e with
  | dataAvailable bytes => exact onData_rxInv hlen hs
  | setBoardCall d => cases hs; exact hrx
  | setChannelCall d => cases hs; exact hrx
  | unlockCall => cases hs; exact rxInv_of_handlerFrame hrx (onUnlock_handlerFrame s)
  | pollCall => cases hs; exact rxInv_of_handlerFrame hrx (onPoll_handlerFrame s)
  | reconnectElapsed => cases hs; exact rxInv_of_handlerFrame hrx (onReconnectElapsed_handlerFrame s)
  | pollElapsed => cases hs; exact rxInv_of_handlerFrame hrx (onPollElapsed_handlerFrame s)
  | transportError => cases hs; exact rxInv_of_handlerFrame hrx (onTransportError_handlerFrame s)
  | responseOverdue => cases hs; exact rxInv_of_handlerFrame hrx (onResponseOverdue_handlerFrame s)

theorem drive_rxInv {h : Handling} (hrx : RxInv h.1.params.rxChunk h.1.rx) (rs : List TransportReply) :
    RxInv (drive rs h).params.rxChunk (drive rs h).rx :=
  rxInv_of_handlerFrame (s := { h.1 with replies := (drive rs h).replies }) hrx (drive_handlerFrame rs h)

/-- An event's handler, whole, keeps good states good (46_host_link_controller.md R202). -/
theorem handleEvent_good {e : Event} {s t : State} (hs : GoodState s) (h : handleEvent e s = .next t) :
    GoodState t := by
  obtain ⟨htx, hrx, hctl, hlen⟩ := hs
  have hparams := handleEvent_params h
  unfold handleEvent at h
  split at h
  next g hg =>
    cases h
    obtain ⟨htx', hctl'⟩ := drive_good (handle_good htx hctl hg) g.1.replies
    exact ⟨htx', drive_rxInv (handle_rxInv hrx hlen hg) _, hctl', hparams ▸ hlen⟩
  all_goals cases h

/-- Every instruction keeps good states good (10_state.md R27, R37). -/
theorem exec_good {i : Instr} {s t : State} (hs : GoodState s) (h : exec i s = .next t) : GoodState t := by
  obtain ⟨htx, hrx, hctl, hlen⟩ := hs
  obtain ⟨hctl', hparams', -⟩ := exec_environment h
  exact ⟨exec_txInv htx h, exec_rxInv hrx hlen h, hctl' ▸ hctl, hparams' ▸ hlen⟩

theorem receiveChunk_good {bytes : List Byte} {s t : State} (hs : GoodState s) (h : receiveChunk bytes s = .next t) :
    GoodState t := by
  obtain ⟨htx, -, hctl, hlen⟩ := hs
  obtain ⟨-, htx'⟩ := receiveChunk_outside h
  obtain ⟨hctl', hparams', -⟩ := receiveChunk_environment h
  exact ⟨htx' ▸ htx, ⟨_, receiveChunk_history hlen h⟩, hctl' ▸ hctl, hparams' ▸ hlen⟩

theorem runRequest_good {r : Request} {s t : State} (hs : GoodState s) (h : runRequest r s = .next t) :
    GoodState t := by
  unfold runRequest at h
  split at h
  · exact exec_good hs h
  · cases r with
    | port w => cases h; exact hs
    | sent bytes => cases h; exact hs
    | received bytes => exact receiveChunk_good hs h

/-- Settles O36: idle, no byte received, the controller at its start. -/
theorem goodStateAtPowerOn : Obligations.GoodStateAtPowerOn :=
  ⟨TxInv.atReset, ⟨[], RxHistory.atReset _⟩, .of_closed rfl, show 11 ≤ 32 by decide⟩

/-- Settles O37, by the input the step takes: none, a request, an event. -/
theorem stepKeepsGoodStates : Obligations.StepKeepsGoodStates := by
  intro s t hs h
  obtain ⟨-, h'⟩ | ⟨r, rest, -, h'⟩ | ⟨e, rest, -, h'⟩ := step_cases s
  · cases h'.symm.trans h; exact hs
  · exact runRequest_good (s := { s.quiet with inbox := rest }) hs (h'.symm.trans h)
  · exact handleEvent_good (s := { s.quiet with inbox := rest }) hs (h'.symm.trans h)

end Sys2Proof.Machine
end

section
/-! Noninterference (O47): an instruction run in two states that look the same answers the same and leaves them looking
the same. -/

namespace Sys2Proof.Machine

/-- What is seen of a step is the same: the visible registers, the answer and the event (10_state.md R43). -/
def SameShown (s t : State) : Prop := SameVisible s t ∧ s.answer = t.answer ∧ s.rxDone = t.rxDone

/-- Both operations answer and the same is seen of them, or both stop with the same fault. -/
inductive SameOutcome : Result → Result → Prop where
  | next {s t : State} (h : SameShown s t) : SameOutcome (.next s) (.next t)
  | fault (f : Fault) : SameOutcome (.fault f) (.fault f)

/-! What an operation can look at is the same in states that look the same. -/

section
variable {s t : State}

theorem SameVisible.ident (h : SameVisible s t) : s.ident = t.ident := by
  obtain ⟨hident, -⟩ := h
  exact hident

theorem SameVisible.params (h : SameVisible s t) : s.params = t.params := by
  obtain ⟨-, hparams, -⟩ := h
  exact hparams

theorem SameVisible.busy (h : SameVisible s t) : s.tx.busy = t.tx.busy := by
  obtain ⟨-, -, heq | ⟨hs, ht, -⟩, -⟩ := h
  · rw [heq]
  · rw [hs, ht]

theorem SameVisible.idx (h : SameVisible s t) : s.tx.idx = t.tx.idx := by
  obtain ⟨-, -, heq | ⟨-, -, hidx⟩, -⟩ := h
  · rw [heq]
  · exact hidx

/-- While a frame is being sent nothing of the TX unit is hidden. -/
theorem SameVisible.tx_of_busy (h : SameVisible s t) (hbusy : s.tx.busy = true) : s.tx = t.tx := by
  obtain ⟨-, -, heq | ⟨hs, -, -⟩, -⟩ := h
  · exact heq
  · simp [hbusy] at hs

theorem SameVisible.phase (h : SameVisible s t) : s.rx.phase = t.rx.phase := by
  obtain ⟨-, -, -, heq | ⟨hs, ht, -⟩⟩ := h
  · rw [heq]
  · rw [hs, ht]

theorem SameVisible.result (h : SameVisible s t) : s.rx.result = t.rx.result := by
  obtain ⟨-, -, -, heq | ⟨-, -, -, -, hresult, -⟩⟩ := h
  · rw [heq]
  · exact hresult

/-- While a chunk is open nothing of the RX unit is hidden. -/
theorem SameVisible.rx_of_opened (h : SameVisible s t) (hopen : s.rx.phase = .opened) : s.rx = t.rx := by
  obtain ⟨-, -, -, heq | ⟨hs, -⟩⟩ := h
  · exact heq
  · simp [hopen] at hs

/-- After an `Ok` nothing of the RX unit is hidden. -/
theorem SameVisible.rx_of_ok (h : SameVisible s t) (hok : s.rx.result = some .ok) : s.rx = t.rx := by
  obtain ⟨-, -, -, heq | ⟨-, -, -, -, -, hnot⟩⟩ := h
  · exact heq
  · exact absurd hok hnot

/-- `RD.STAT` reads nothing hidden (10_state.md R39, R43). -/
theorem SameVisible.statRecord_eq (h : SameVisible s t) : statRecord s.tx s.rx = statRecord t.tx t.rx := by
  obtain ⟨hcnt, hhdr⟩ : s.rx.cnt = t.rx.cnt ∧ s.rx.hdrOk = t.rx.hdrOk := by
    obtain ⟨-, -, -, heq | ⟨-, -, hcnt, hhdr, -⟩⟩ := h
    · rw [heq]; exact ⟨rfl, rfl⟩
    · exact ⟨hcnt, hhdr⟩
  simp [statRecord, RxUnit.isOpen, RxUnit.hdrDet, h.busy, h.idx, h.phase, hcnt, hhdr]

/-! Writing the same to both keeps them looking the same. -/

theorem SameVisible.withIdent (h : SameVisible s t) (d : Identity) : SameVisible (s.withIdent d) (t.withIdent d) := by
  obtain ⟨-, hparams, htx, hrx⟩ := h
  exact ⟨rfl, hparams, htx, hrx⟩

theorem SameVisible.withTx (h : SameVisible s t) (tx : TxUnit) : SameVisible (s.withTx tx) (t.withTx tx) := by
  obtain ⟨hident, hparams, -, hrx⟩ := h
  exact ⟨hident, hparams, .inl rfl, hrx⟩

theorem SameVisible.withRx (h : SameVisible s t) (rx : RxUnit) : SameVisible (s.withRx rx) (t.withRx rx) := by
  obtain ⟨hident, hparams, htx, -⟩ := h
  exact ⟨hident, hparams, htx, .inl rfl⟩

theorem SameVisible.resetBlock (h : SameVisible s t) : SameVisible s.resetBlock t.resetBlock := by
  obtain ⟨-, hparams, -, -⟩ := h
  exact ⟨rfl, hparams, .inl rfl, .inl rfl⟩

theorem SameVisible.reply (h : SameVisible s t) (a : Answer) : SameShown (s.reply a) (t.reply a) := ⟨h, rfl, rfl⟩

theorem SameVisible.refuse (h : SameVisible s t) : SameShown s.refuse t.refuse := h.reply .refused

/-! The shared operations. -/

theorem encodeCommand_sameShown (h : SameVisible s t) (k : CommandKind) :
    SameShown (encodeCommand k s) (encodeCommand k t) := by
  unfold encodeCommand
  rw [← h.ident]
  split
  · exact h.refuse
  · exact (h.withTx _).reply _

theorem sendFrame_sameShown (h : SameVisible s t) (k : CommandKind) (f : List Byte) :
    SameShown (sendFrame k f s) (sendFrame k f t) := by
  unfold sendFrame composeFrame
  rw [← h.ident]
  cases s.ident.pair with
  | none => exact h.refuse
  | some bc =>
    dsimp only
    split
    · exact (h.withTx _).reply _
    · exact h.refuse

/-- The verdict on an open chunk is on nothing hidden, and closes both alike (43_rx_verify_parse.md R158). -/
theorem endChunk_sameOutcome (h : SameVisible s t) (hrx : s.rx = t.rx) : SameOutcome (endChunk s) (endChunk t) := by
  obtain ⟨hident, hparams, htx, -⟩ := h
  unfold endChunk
  rw [← hrx]
  split
  · exact .fault _
  · exact .next ⟨⟨hident, hparams, htx, .inl (by simp [hrx])⟩, rfl, rfl⟩

theorem receiveChunk_sameOutcome (h : SameVisible s t) (bytes : List Byte) :
    SameOutcome (receiveChunk bytes s) (receiveChunk bytes t) := by
  unfold receiveChunk
  rw [← h.params]
  exact endChunk_sameOutcome (h.withRx _) rfl

/-! The instructions. -/

theorem execTxNext_sameOutcome (h : SameVisible s t) : SameOutcome (execTxNext s) (execTxNext t) := by
  unfold execTxNext
  cases hbusy : s.tx.busy with
  | true =>
    rw [← h.tx_of_busy hbusy, TxUnit.next_busy hbusy]
    exact .next ((h.withTx _).reply _)
  | false =>
    rw [TxUnit.next_eq_none.2 hbusy, TxUnit.next_eq_none.2 (h.busy ▸ hbusy)]
    exact .next (h.reply _)

theorem execRxByte_sameOutcome (h : SameVisible s t) (d : Byte) : SameOutcome (execRxByte d s) (execRxByte d t) := by
  unfold execRxByte
  rw [← h.phase]
  cases hphase : s.rx.phase with
  | closed => exact .next (h.reply _)
  | opened =>
    rw [← h.rx_of_opened hphase, ← h.params]
    exact .next ((h.withRx _).reply _)

theorem execRxEnd_sameOutcome (h : SameVisible s t) : SameOutcome (execRxEnd s) (execRxEnd t) := by
  unfold execRxEnd
  rw [← h.phase]
  cases hphase : s.rx.phase with
  | closed => rw [← h.result]; exact .next (h.reply _)
  | opened => exact endChunk_sameOutcome h (h.rx_of_opened hphase)

theorem execRdField_sameOutcome (h : SameVisible s t) (f : Byte) : SameOutcome (execRdField f s) (execRdField f t) := by
  unfold execRdField
  rw [← h.result]
  cases fieldOffset f with
  | none => exact .next h.refuse
  | some i =>
    by_cases hok : s.rx.result = some .ok
    · simp only [← h.rx_of_ok hok, if_neg (not_not_intro hok)]
      cases s.rx.cap.read i with
      | none => exact .fault _
      | some b => exact .next (h.reply _)
    · simp only [if_pos hok]
      exact .next h.refuse

theorem execRdClass_sameOutcome (h : SameVisible s t) : SameOutcome (execRdClass s) (execRdClass t) := by
  unfold execRdClass
  rw [← h.result, ← h.ident]
  cases s.ident.pair with
  | none => exact .next h.refuse
  | some bc =>
    by_cases hok : s.rx.result = some .ok
    · simp only [← h.rx_of_ok hok, if_neg (not_not_intro hok)]
      cases s.rx.parsed with
      | none => exact .fault _
      | some p => exact .next (h.reply _)
    · simp only [if_pos hok]
      exact .next h.refuse

/-- An instruction answers the same in states that look the same, and leaves them looking the same (10_state.md R43,
93_implementation_defined.md U6, U7). -/
theorem exec_sameOutcome (h : SameVisible s t) (i : Instr) : SameOutcome (exec i s) (exec i t) := by
  cases i with
  | unlock b c x => exact .next (sendFrame_sameShown h _ _)
  | status b c x => exact .next (sendFrame_sameShown h _ _)
  | rspUnlock l b st c k x => rw [exec_rspUnlock, exec_rspUnlock]; exact receiveChunk_sameOutcome h _
  | rspStatus l b st c k x => rw [exec_rspStatus, exec_rspStatus]; exact receiveChunk_sameOutcome h _
  | rspOther l b e st c k x => rw [exec_rspOther, exec_rspOther]; exact receiveChunk_sameOutcome h _
  | setBoard d => simp only [exec, execSetBoard, ← h.ident]; exact .next ((h.withIdent _).reply _)
  | setChan d => simp only [exec, execSetChan, ← h.ident]; exact .next ((h.withIdent _).reply _)
  | encUnlock => exact .next (encodeCommand_sameShown h _)
  | encStatus => exact .next (encodeCommand_sameShown h _)
  | txNext => exact execTxNext_sameOutcome h
  | rxStart => exact .next ((h.withRx _).reply _)
  | rxByte d => exact execRxByte_sameOutcome h d
  | rxEnd => exact execRxEnd_sameOutcome h
  | rdResult => simp only [exec, execRdResult, ← h.result]; exact .next (h.reply _)
  | rdField f => exact execRdField_sameOutcome h f
  | rdClass => exact execRdClass_sameOutcome h
  | rdStat => simp only [exec, execRdStat, ← h.statRecord_eq]; exact .next (h.reply _)
  | reset => exact .next (h.resetBlock.reply _)

/-- What follows a step is seen from the other state as well. -/
theorem SameOutcome.exists_next {r : Result} {u : State} (h : SameOutcome (.next u) r) :
    ∃ v, r = .next v ∧ SameShown u v := by
  cases h with
  | next hshown => exact ⟨_, rfl, hshown⟩

end

/-- A list of instructions runs with its first, then with the others. -/
theorem runOps_cons {i : Instr} {is : List Instr} {s u : State} {o : List Observation} :
    runOps (i :: is) s = some (o, u) ↔
      ∃ t o', exec i s = .next t ∧ runOps is t = some (o', u) ∧ o = (t.answer, t.rxDone) :: o' := by
  rw [runOps]
  constructor
  · intro h
    split at h
    next t ht =>
      split at h
      next o' u' hu => cases h; exact ⟨t, o', ht, hu, rfl⟩
      next => cases h
    next => cases h
  · rintro ⟨t, o', ht, hu, rfl⟩
    simp [ht, hu]

/-- Settles O47, by induction on the instructions. -/
theorem hiddenRegistersStayHidden : Obligations.HiddenRegistersStayHidden := by
  intro is
  induction is with
  | nil =>
    rintro s s' t o h ⟨⟩
    exact ⟨s', rfl, h⟩
  | cons i is ih =>
    intro s s' t o h hrun
    obtain ⟨u, o', hu, hrest, rfl⟩ := runOps_cons.1 hrun
    obtain ⟨u', hu', hsame, hanswer, hdone⟩ := SameOutcome.exists_next (hu ▸ exec_sameOutcome h i)
    obtain ⟨t', ht', hsame'⟩ := ih u u' t o' hsame hrest
    exact ⟨t', runOps_cons.2 ⟨u', o', hu', ht', by rw [hanswer, hdone]⟩, hsame'⟩

end Sys2Proof.Machine
end

section
/-! A step whose next input is a request (O34). -/

namespace Sys2Proof.Machine

/-- A request at the head of the inbox is what the step runs, on the state without it and without the old outputs (log 1). -/
theorem step_of_request {s : State} {r : Request} {rest : List Input} (h : s.inbox = .request r :: rest) :
    step s = runRequest r { s.quiet with inbox := rest } := by
  simp only [step, takeInput, h]

/-- A request that decodes runs as the instruction it decodes to. -/
theorem runRequest_of_decode {r : Request} {i : Instr} (h : decode r = .ok i) (s : State) :
    runRequest r s = exec i s := by
  simp only [runRequest, h]

/-- Settles O34: the step takes the request, and the request runs as its instruction. -/
theorem stepRunsTheDecodedInstruction : Obligations.StepRunsTheDecodedInstruction := by
  intro s r rest i hinbox hdecode
  calc step s = runRequest r { s.quiet with inbox := rest } := step_of_request hinbox
    _ = exec i { s.quiet with inbox := rest } := runRequest_of_decode hdecode _

end Sys2Proof.Machine
end

section
/-! TX and RX operations commute (O42). A TX operation reads the identity and the TX unit only, an RX operation the RX unit
and the parameters only; so what one did in a state it does in every state that agrees on these, and neither sees that the
other has run. -/

namespace Sys2Proof.Machine

/-- The state `s` showing the answer and the event of `t` (00_scope.md R14). -/
def State.showing (s t : State) : State := { s with answer := t.answer, rxDone := t.rxDone }

@[simp] theorem State.showing_ident (s t : State) : (s.showing t).ident = s.ident := rfl
@[simp] theorem State.showing_tx (s t : State) : (s.showing t).tx = s.tx := rfl
@[simp] theorem State.showing_rx (s t : State) : (s.showing t).rx = s.rx := rfl
@[simp] theorem State.showing_ctl (s t : State) : (s.showing t).ctl = s.ctl := rfl
@[simp] theorem State.showing_params (s t : State) : (s.showing t).params = s.params := rfl
@[simp] theorem State.showing_answer (s t : State) : (s.showing t).answer = t.answer := rfl
@[simp] theorem State.showing_rxDone (s t : State) : (s.showing t).rxDone = t.rxDone := rfl

/-! A TX operation. -/

section
variable {s s' : State}

/-- An operation that only answers leaves the TX unit that both states have. -/
theorem reply_eq_of_sameTx (htx : s'.tx = s.tx) (a : Answer) :
    s'.reply a = (s'.withTx (s.reply a).tx).showing (s.reply a) := by
  rw [State.reply_tx, ← htx]; rfl

theorem encodeCommand_local (hident : s'.ident = s.ident) (htx : s'.tx = s.tx) (k : CommandKind) :
    encodeCommand k s' = (s'.withTx (encodeCommand k s).tx).showing (encodeCommand k s) := by
  unfold encodeCommand
  rw [hident]
  split
  · exact reply_eq_of_sameTx htx .refused
  · rfl

theorem sendFrame_local (hident : s'.ident = s.ident) (htx : s'.tx = s.tx) (k : CommandKind) (f : List Byte) :
    sendFrame k f s' = (s'.withTx (sendFrame k f s).tx).showing (sendFrame k f s) := by
  unfold sendFrame composeFrame
  rw [hident]
  cases s.ident.pair with
  | none => exact reply_eq_of_sameTx htx .refused
  | some bc =>
    dsimp only
    split
    · rfl
    · exact reply_eq_of_sameTx htx .refused

/-- What a TX operation did in `s`, it does in every state with the same identity and TX unit (10_state.md R20,
20_memory.md R61). -/
theorem exec_tx_local {i : Instr} {t : State} (hi : isTx i = true) (hident : s'.ident = s.ident) (htx : s'.tx = s.tx)
    (h : exec i s = .next t) : exec i s' = .next ((s'.withTx t.tx).showing t) := by
  cases i with
  | unlock b c x => cases h; rw [exec_unlock, sendFrame_local hident htx]
  | status b c x => cases h; rw [exec_status, sendFrame_local hident htx]
  | encUnlock => cases h; exact congrArg _ (encodeCommand_local hident htx .unlock)
  | encStatus => cases h; exact congrArg _ (encodeCommand_local hident htx .status)
  | txNext =>
    simp only [exec, execTxNext] at h ⊢
    rw [htx]
    cases hnext : s.tx.next with
    | none => rw [hnext] at h; cases h; exact congrArg _ (reply_eq_of_sameTx htx .empty)
    | some next => rw [hnext] at h; cases h; rfl
  | _ => cases hi

/-! An RX operation. -/

/-- An operation that only answers leaves the RX unit that both states have. -/
theorem reply_eq_of_sameRx (hrx : s'.rx = s.rx) (a : Answer) :
    s'.reply a = (s'.withRx (s.reply a).rx).showing (s.reply a) := by
  rw [State.reply_rx, ← hrx]; rfl

theorem endChunk_local {t : State} (hrx : s'.rx = s.rx) (h : endChunk s = .next t) :
    endChunk s' = .next ((s'.withRx t.rx).showing t) := by
  unfold endChunk at h ⊢
  rw [hrx]
  cases hv : s.rx.verdict with
  | none => rw [hv] at h; cases h
  | some v => rw [hv] at h; cases h; simp only [raiseVerdict, hrx]; rfl

theorem receiveChunk_local {bytes : List Byte} {t : State} (hparams : s'.params = s.params)
    (h : receiveChunk bytes s = .next t) : receiveChunk bytes s' = .next ((s'.withRx t.rx).showing t) := by
  unfold receiveChunk at h ⊢
  rw [hparams]
  exact endChunk_local (s := s.withRx _) (s' := s'.withRx _) rfl h

/-- What an RX operation did in `s`, it does in every state with the same RX unit and parameters (10_state.md R20,
20_memory.md R61). -/
theorem exec_rx_local {j : Instr} {t : State} (hj : isRx j = true) (hrx : s'.rx = s.rx) (hparams : s'.params = s.params)
    (h : exec j s = .next t) : exec j s' = .next ((s'.withRx t.rx).showing t) := by
  cases j with
  | rspUnlock l b st c k x => rw [exec_rspUnlock] at h ⊢; exact receiveChunk_local hparams h
  | rspStatus l b st c k x => rw [exec_rspStatus] at h ⊢; exact receiveChunk_local hparams h
  | rspOther l b e st c k x => rw [exec_rspOther] at h ⊢; exact receiveChunk_local hparams h
  | rxStart => cases h; rfl
  | rxByte d =>
    simp only [exec, execRxByte] at h ⊢
    rw [hrx, hparams]
    cases hphase : s.rx.phase with
    | closed => rw [hphase] at h; cases h; exact congrArg _ (reply_eq_of_sameRx hrx .nothing)
    | opened => rw [hphase] at h; cases h; rfl
  | rxEnd =>
    simp only [exec, execRxEnd] at h ⊢
    rw [hrx]
    cases hphase : s.rx.phase with
    | closed => rw [hphase] at h; cases h; exact congrArg _ (reply_eq_of_sameRx hrx _)
    | opened => rw [hphase] at h; exact endChunk_local hrx h
  | _ => cases hj

end

/-- Two instructions run when the first does and the second does after it. -/
theorem runOps_pair {i j : Instr} {s t : State} {a b : Observation} :
    runOps [i, j] s = some ([a, b], t) ↔
      ∃ u, exec i s = .next u ∧ exec j u = .next t ∧ a = (u.answer, u.rxDone) ∧ b = (t.answer, t.rxDone) := by
  constructor
  · intro h
    obtain ⟨u, o, hu, hrest, hout⟩ := runOps_cons.1 h
    obtain ⟨t', o', ht, hnil, rfl⟩ := runOps_cons.1 hrest
    cases hnil
    cases hout
    exact ⟨u, hu, ht, rfl, rfl⟩
  · rintro ⟨u, hu, ht, rfl, rfl⟩
    exact runOps_cons.2 ⟨u, _, hu, runOps_cons.2 ⟨t, [], ht, rfl, rfl⟩, rfl⟩

/-- Settles O42: the RX operation does in `s` what it did after the TX operation, which wrote nothing that it reads, and the
TX operation does after it what it did in `s`. -/
theorem txAndRxCommute : Obligations.TxAndRxCommute := by
  intro i j s t a b hi hj hrun
  obtain ⟨m, hm, ht, rfl, rfl⟩ := runOps_pair.1 hrun
  obtain ⟨hident, hrx⟩ := exec_outside_tx hi hm
  obtain ⟨hctl, hparams, -⟩ := exec_environment hm
  obtain ⟨hident', htx'⟩ := exec_outside_rx hj ht
  obtain ⟨hctl', hparams', -⟩ := exec_environment ht
  have hrxFirst : exec j s = .next ((s.withRx t.rx).showing t) := exec_rx_local hj hrx.symm hparams.symm ht
  have htxThen := exec_tx_local (s := s) (s' := (s.withRx t.rx).showing t) hi rfl rfl hm
  refine ⟨_, runOps_pair.2 ⟨_, hrxFirst, htxThen, ?_, ?_⟩, ?_⟩
  · simp only [State.showing_answer, State.showing_rxDone]
  · simp only [State.showing_answer, State.showing_rxDone]
  · simp [hident', hident, htx', hctl', hctl, hparams', hparams]

end Sys2Proof.Machine
end

section
/-! Encoding (O1 to O4). What a request decodes to is said once for operation words, for bytes sent and for bytes received:
it is the instruction whose words the request is. Both directions of the round trip are read off these lemmas. -/

namespace Sys2Proof

/-! Operation words (30_encoding.md R85). -/

@[simp] theorem selector_append (o : BitVec 4) (d : Byte) : selector (o ++ d) = o :=
  BitVec.extractLsb'_append_eq_left

@[simp] theorem operand_append (o : BitVec 4) (d : Byte) : operand (o ++ d) = d :=
  BitVec.extractLsb'_append_eq_right

/-- A word is its selector before its operand. -/
theorem portWord_selector_operand (w : PortWord) : portWord (selector w) (operand w) = w :=
  (BitVec.extractLsb'_append_extractLsb'_eq_extractLsb' (w := 12) rfl).trans BitVec.extractLsb'_eq_self

theorem portWord_operand {w : PortWord} {o : BitVec 4} (h : selector w = o) : portWord o (operand w) = w := by
  rw [← h, portWord_selector_operand]

/-- Settles O3: the selector of `o ++ d` is `o`, its operand `d`, and the decoder's match on `o` is the table. -/
theorem selectorChoosesOperation : Obligations.SelectorChoosesOperation := by
  intro d
  simp [decode, decodePort]

/-- The operations that take no operand (30_encoding.md R84). -/
def operandFree : List Instr := [.encUnlock, .encStatus, .txNext, .rxStart, .rxEnd, .rdResult, .rdClass, .rdStat, .reset]

/-- An operation word decodes to an operation whose word it is, but for the operand bits that the operation ignores. -/
theorem encode_of_decodePort {w : PortWord} {i : Instr} (h : decodePort w = .ok i) :
    WellFormed i ∧
      (encode i = .port w ∨ (i ∈ operandFree ∧ encode i = .port (portWord (selector w) 0x00))) := by
  have hoperand {j : Instr} {o : BitVec 4} (ho : selector w = o) (hj : encode j = .port (portWord o (operand w))) :
      encode j = .port w := by rw [hj, portWord_operand ho]
  have hfree {j : Instr} {o : BitVec 4} (ho : selector w = o) (hj : encode j = .port (portWord o 0x00)) :
      encode j = .port (portWord (selector w) 0x00) := by rw [hj, ho]
  unfold decodePort at h
  split at h <;> cases h <;> refine ⟨rfl, ?_⟩
  case h_1 ho | h_2 ho | h_7 ho | h_10 ho => exact .inl (hoperand ho rfl)
  all_goals exact .inr ⟨by decide, hfree ‹_› rfl⟩

/-! Command frames sent (30_encoding.md R70, R71). -/

/-- The command frame kind a command kind names (30_encoding.md R76). -/
def CommandKind.frameInstr (k : CommandKind) (b c x : Byte) : Instr :=
  match k with
  | .unlock => .unlock b c x
  | .status => .status b c x

theorem encode_frameInstr (k : CommandKind) (b c x : Byte) :
    encode (k.frameInstr b c x) = .sent (commandBytes k b c x) := by
  cases k <;> rfl

theorem wellFormed_frameInstr {k : CommandKind} {b c x : Byte} :
    WellFormed (k.frameInstr b c x) ↔ x = xorfold (commandBody k b c) := by
  cases k <;> exact beq_iff_eq

/-- Bytes sent decode to the command frame they are, its checksum right (30_encoding.md R71, R73). -/
theorem decodeSent_eq_ok {s : List Byte} {i : Instr} :
    decodeSent s = .ok i ↔
      ∃ k b c x, x = xorfold (commandBody k b c) ∧ s = commandBytes k b c x ∧ i = k.frameInstr b c x := by
  constructor
  · intro h
    unfold decodeSent at h
    split at h
    next m0 m1 m2 m3 l b o c x =>
      split_ifs at h with hmagic hlen hsum hunlock hstatus <;> cases h <;>
        simp only [ne_eq, Decidable.not_not] at hmagic hlen hsum <;>
        obtain ⟨rfl, rfl, rfl, rfl⟩ : m0 = 0x57 ∧ m1 = 0x4B ∧ m2 = 0x4C ∧ m3 = 0x59 := by simpa [magic] using hmagic
      · subst hlen hunlock; exact ⟨.unlock, b, c, x, hsum, rfl, rfl⟩
      · subst hlen hstatus; exact ⟨.status, b, c, x, hsum, rfl, rfl⟩
    next => cases h
  · rintro ⟨k, b, c, x, rfl, rfl, rfl⟩
    cases k <;> simp [decodeSent, commandBytes, commandBody, magic, CommandKind.op, CommandKind.frameInstr]

/-! Response frames received (30_encoding.md R74, R92). -/

/-- A chunk that starts with a response decodes to it, its checksum right, and leaves what follows (30_encoding.md R92). -/
theorem decodeChunk_eq_ok {s rest : List Byte} {i : Instr} :
    decodeChunk s = .ok (i, rest) ↔
      ∃ l b e st c k x, x = xorfold (responseBody (responseFields l b e st c k)) ∧
        s = responseBytes l b e st c k x ++ rest ∧ i = responseInstr l b e st c k x := by
  constructor
  · intro h
    unfold decodeChunk at h
    split at h
    next => cases h
    next hhdr =>
      split at h
      next m0 m1 m2 m3 l b e st c k x tail =>
        split_ifs at h with hsum
        cases h
        obtain ⟨rfl, rfl, rfl, rfl⟩ : m0 = 0x57 ∧ m1 = 0x4B ∧ m2 = 0x4C ∧ m3 = 0x59 := by
          simpa [hdrMatch, magic] using hhdr
        exact ⟨l, b, e, st, c, k, x, not_not.1 hsum, rfl, rfl⟩
      next => cases h
  · rintro ⟨l, b, e, st, c, k, x, rfl, rfl, rfl⟩
    simp [decodeChunk, hdrMatch, responseBytes, responseBody, responseFields, magic]

/-- Received bytes decode to the response they are, with nothing after it (30_encoding.md R92). -/
theorem decodeReceived_eq_ok {s : List Byte} {i : Instr} :
    decodeReceived s = .ok i ↔
      ∃ l b e st c k x, x = xorfold (responseBody (responseFields l b e st c k)) ∧
        s = responseBytes l b e st c k x ∧ i = responseInstr l b e st c k x := by
  have hwhole : decodeReceived s = .ok i ↔ decodeChunk s = .ok (i, []) := by
    unfold decodeReceived
    split <;> simp_all
  rw [hwhole, decodeChunk_eq_ok]
  simp only [List.append_nil]

theorem cmdKind_eq_unlock {e : Byte} : cmdKind e = .unlock ↔ e = CommandKind.unlock.op := by
  unfold cmdKind; split_ifs <;> simp_all

theorem cmdKind_eq_status {e : Byte} : cmdKind e = .status ↔ e = CommandKind.status.op := by
  unfold cmdKind; split_ifs <;> simp_all [CommandKind.op]

/-- The echo selects the response kind: one of the two commands' own, or the kind that keeps the echo (30_encoding.md
R76). -/
theorem responseInstr_cases (l b e st c k x : Byte) :
    (e = CommandKind.unlock.op ∧ responseInstr l b e st c k x = .rspUnlock l b st c k x) ∨
    (e = CommandKind.status.op ∧ responseInstr l b e st c k x = .rspStatus l b st c k x) ∨
    (cmdKind e = .other ∧ responseInstr l b e st c k x = .rspOther l b e st c k x) := by
  unfold responseInstr
  split
  next h => exact .inl ⟨cmdKind_eq_unlock.1 h, rfl⟩
  next h => exact .inr (.inl ⟨cmdKind_eq_status.1 h, rfl⟩)
  next h => exact .inr (.inr ⟨h, rfl⟩)

/-- The response kind that an echo selects is written with that echo (30_encoding.md R74). -/
theorem encode_responseInstr (l b e st c k x : Byte) :
    encode (responseInstr l b e st c k x) = .received (responseBytes l b e st c k x) := by
  obtain ⟨rfl, h⟩ | ⟨rfl, h⟩ | ⟨-, h⟩ := responseInstr_cases l b e st c k x <;> rw [h] <;> rfl

theorem wellFormed_responseInstr {l b e st c k x : Byte} :
    WellFormed (responseInstr l b e st c k x) ↔ x = xorfold (responseBody (responseFields l b e st c k)) := by
  obtain ⟨rfl, h⟩ | ⟨rfl, h⟩ | ⟨hecho, h⟩ := responseInstr_cases l b e st c k x <;> rw [h]
  · exact beq_iff_eq
  · exact beq_iff_eq
  · simp [WellFormed, Instr.wellFormed, hecho]

/-! The round trip. -/

/-- The words of a well-formed command frame decode to it. -/
theorem decode_encode_frameInstr {k : CommandKind} {b c x : Byte} (h : WellFormed (k.frameInstr b c x)) :
    decode (encode (k.frameInstr b c x)) = .ok (k.frameInstr b c x) := by
  rw [encode_frameInstr]
  exact decodeSent_eq_ok.2 ⟨k, b, c, x, wellFormed_frameInstr.1 h, rfl, rfl⟩

/-- The words of a well-formed response frame decode to it. -/
theorem decode_encode_responseInstr {l b e st c k x : Byte} (h : WellFormed (responseInstr l b e st c k x)) :
    decode (encode (responseInstr l b e st c k x)) = .ok (responseInstr l b e st c k x) := by
  rw [encode_responseInstr]
  exact decodeReceived_eq_ok.2 ⟨l, b, e, st, c, k, x, wellFormed_responseInstr.1 h, rfl, rfl⟩

/-- Settles O1, by the row: a command frame, a response frame with its echo, or an operation word. -/
theorem decodeInvertsEncode : Obligations.DecodeInvertsEncode := by
  intro i hi
  cases i with
  | unlock b c x => exact decode_encode_frameInstr (k := .unlock) hi
  | status b c x => exact decode_encode_frameInstr (k := .status) hi
  | rspUnlock l b st c k x => exact decode_encode_responseInstr (e := CommandKind.unlock.op) hi
  | rspStatus l b st c k x => exact decode_encode_responseInstr (e := CommandKind.status.op) hi
  | rspOther l b e st c k x =>
    have hecho : cmdKind e = .other := by simp_all [WellFormed, Instr.wellFormed]
    have hrow : responseInstr l b e st c k x = .rspOther l b e st c k x := by rw [responseInstr, hecho]
    rw [← hrow] at hi ⊢
    exact decode_encode_responseInstr hi
  | setBoard | setChan | rxByte | rdField => simp [encode, decode, decodePort, portWord]
  | _ => rfl

/-- Settles O2, by the direction of the request. -/
theorem encodeInvertsDecode : Obligations.EncodeInvertsDecode := by
  intro r i h
  cases r with
  | port w => exact encode_of_decodePort h
  | sent s =>
    obtain ⟨k, b, c, x, hsum, rfl, rfl⟩ := decodeSent_eq_ok.1 h
    exact ⟨wellFormed_frameInstr.2 hsum, encode_frameInstr k b c x⟩
  | received s =>
    obtain ⟨l, b, e, st, c, k, x, hsum, rfl, rfl⟩ := decodeReceived_eq_ok.1 h
    exact ⟨wellFormed_responseInstr.2 hsum, encode_responseInstr l b e st c k x⟩

/-- Settles O4: four of the words are those of a well-formed instruction, and one is an unlock frame whose last byte is not
the XOR of the others. -/
theorem writtenWordsDecode : Obligations.WrittenWordsDecode :=
  ⟨decodeInvertsEncode (.unlock 0x01 0x01 0x82) (by decide), decodeInvertsEncode (.status 0x12 0x34 0xA5) (by decide),
    by decide, decodeInvertsEncode (.rspOther 0x0B 0x01 0x84 0x00 0x01 0x00 0x86) (by decide),
    decodeInvertsEncode (.rdField 0x05) rfl⟩

end Sys2Proof
end

section
/-! A request that is no instruction (O35, O60), and what receiving a chunk leaves for the reads (43_rx_verify_parse.md
R160). -/

namespace Sys2Proof.Machine

/-- A request that decodes to nothing runs as what the block makes of such a request (30_encoding.md R86, R92). -/
theorem runRequest_of_error {r : Request} {e : DecodeError} (h : decode r = .error e) (s : State) :
    runRequest r s = undecoded r s := by
  simp only [runRequest, h]

/-- The unassigned selectors decode to nothing, whatever the operand (30_encoding.md R86). -/
theorem decode_of_unassigned {w : PortWord} (h : selector w = 0x0 ∨ selector w = 0xD ∨ selector w = 0xE) :
    decode (.port w) = .error (.unassignedSelector (selector w)) := by
  obtain h | h | h := h <;> simp [decode, decodePort, h]

/-- Settles O35: the word decodes to nothing, and such a word is refused. -/
theorem unassignedSelectorIsRefused : Obligations.UnassignedSelectorIsRefused := by
  intro s w rest hinbox hw
  rw [step_of_request hinbox, runRequest_of_error (decode_of_unassigned hw)]
  rfl

/-- The fields held after a verdict are those `verify` gives: its six on an `Ok`, none otherwise (10_state.md R35,
43_rx_verify_parse.md R160). -/
theorem RxHistory.parsed_eq {rxChunk : Nat} {s : List Byte} {rx : RxUnit} (h : RxHistory rxChunk s rx)
    (hresult : rx.result = some (verdictOf (verify s))) : rx.parsed = (verify s).toOption := by
  obtain ⟨-, -, -, hcap, -, -⟩ := h
  cases hv : verify s with
  | error e =>
    have hbad : rx.result ≠ some .ok := by rw [hresult, hv]; cases e <;> simp [verdictOf]
    rw [RxUnit.parsed, if_neg hbad]; rfl
  | ok p =>
    obtain ⟨-, hlen, -, rfl⟩ := verify_eq_ok.1 hv
    have hfield {i : Nat} (h4 : 4 ≤ i) (h9 : i ≤ 9) : rx.cap.read i = some (s.getD i 0) := by
      have hi : i < s.length := by simp only [respLen] at hlen; omega
      rw [hcap i h4 (by omega), List.getElem?_eq_getElem hi, List.getD_eq_getElem s 0 hi]
    rw [RxUnit.parsed, if_pos (by rw [hresult, hv]; rfl)]
    exact Captures.fields_eq_some.2 ⟨hfield (i := 4) (by omega) (by omega), hfield (i := 5) (by omega) (by omega),
      hfield (i := 6) (by omega) (by omega), hfield (i := 7) (by omega) (by omega),
      hfield (i := 8) (by omega) (by omega), hfield (i := 9) (by omega) (by omega)⟩

/-- A received chunk has been judged as `verify` judges its bytes: the verdict is answered, signalled and held, the chunk is
closed, and the fields are there on an `Ok` (43_rx_verify_parse.md R158, R160). -/
def Judged (bytes : List Byte) (t : State) : Prop :=
  t.answer = .result (some (verdictOf (verify bytes))) ∧ t.rxDone = some (verdictOf (verify bytes)) ∧
    t.rx.result = some (verdictOf (verify bytes)) ∧ t.rx.phase = .closed ∧ t.rx.parsed = (verify bytes).toOption

theorem receiveChunk_judged {bytes : List Byte} {s t : State} (hlen : respLen ≤ s.params.rxChunk)
    (h : receiveChunk bytes s = .next t) : Judged bytes t := by
  have hhist := receiveChunk_history hlen h
  have ⟨_, _, _, _, _, hheld⟩ := hhist
  obtain ⟨-, h'⟩ | ⟨v, -, h'⟩ := endChunk_cases (s.withRx (bytes.foldl (RxUnit.accept s.params.rxChunk) RxUnit.started))
    <;> cases h'.symm.trans h
  obtain ⟨hclosed, rfl⟩ := hheld v rfl
  exact ⟨rfl, rfl, rfl, hclosed, hhist.parsed_eq rfl⟩

/-- Settles O60: bytes sent are refused; bytes received run as a chunk, which completes, is judged and writes the RX unit
only. -/
theorem requestsThatAreNoInstruction : Obligations.RequestsThatAreNoInstruction := by
  intro s bytes rest e
  constructor
  · intro hinbox hdecode
    rw [step_of_request hinbox, runRequest_of_error hdecode]
    rfl
  · intro hinbox hdecode hlen
    rw [step_of_request hinbox, runRequest_of_error hdecode]
    obtain ⟨t, ht⟩ := receiveChunk_completes bytes { s.quiet with inbox := rest }
    obtain ⟨hanswer, hdone, hresult, hclosed, hparsed⟩ := receiveChunk_judged (s := { s.quiet with inbox := rest }) hlen ht
    obtain ⟨hident, htx⟩ := receiveChunk_outside ht
    obtain ⟨hctl, hparams, hactions, hin, hreplies⟩ := receiveChunk_environment ht
    exact ⟨t, ht, hanswer, hdone, hresult, hclosed, hparsed, hident, htx, hctl, hparams, hactions, hin, hreplies⟩

end Sys2Proof.Machine
end

section
/-! Lists of operations that stand for one transaction (30_encoding.md R90): sending a frame (O33), receiving a chunk (O33)
and the source's `verify(bytes)` (O46). -/

namespace Sys2Proof.Machine

/-- Lists of instructions run one after the other. -/
theorem runOps_append {is js : List Instr} {s t u : State} {o o' : List Observation}
    (hi : runOps is s = some (o, t)) (hj : runOps js t = some (o', u)) : runOps (is ++ js) s = some (o ++ o', u) := by
  induction is generalizing s o with
  | nil => cases hi; exact hj
  | cons i is ih =>
    obtain ⟨m, o1, hm, hrest, rfl⟩ := runOps_cons.1 hi
    exact runOps_cons.2 ⟨m, o1 ++ o', hm, ih hrest, rfl⟩

theorem runOps_singleton {i : Instr} {s t : State} (h : exec i s = .next t) :
    runOps [i] s = some ([(t.answer, t.rxDone)], t) :=
  runOps_cons.2 ⟨t, [], h, rfl, rfl⟩

/-! Sending a frame. -/

/-- `TX.NEXT`s give the bytes that draining the TX unit gives, and leave the state, its last answer apart, with the drained
unit (41_tx_encode.md R125). -/
theorem runOps_txNext {n : Nat} {s : State} (hdone : s.rxDone = none) (hlen : (s.tx.drain n).1.length = n) :
    ∃ t, runOps (List.replicate n .txNext) s = some ((s.tx.drain n).1.map fun b => (.byte b, none), t) ∧
      ∀ a, t.answering a = (s.withTx (s.tx.drain n).2).reply a := by
  induction n generalizing s with
  | zero =>
    refine ⟨s, rfl, fun a => ?_⟩
    simp only [State.answering, State.reply, State.withTx, TxUnit.drain, ← hdone]
  | succ n ih =>
    obtain ⟨hidle, -⟩ | ⟨hbusy, hexec⟩ := exec_txNext_cases s
    · simp [TxUnit.drain, TxUnit.next_eq_none.2 hidle] at hlen
    · have hdrain : s.tx.drain (n + 1) =
          (s.tx.byteAt s.tx.idx.val :: (s.tx.advance.drain n).1, (s.tx.advance.drain n).2) := by
        simp [TxUnit.drain, TxUnit.next_busy hbusy]
      rw [hdrain] at hlen ⊢
      obtain ⟨t, hrun, ht⟩ := ih (s := (s.withTx s.tx.advance).reply (.byte (s.tx.byteAt s.tx.idx.val))) rfl
        (Nat.succ_injective hlen)
      exact ⟨t, runOps_cons.2 ⟨_, _, hexec, hrun, rfl⟩, ht⟩

/-- `ENC.k` with the identity set latches its frame (41_tx_encode.md R121 to R123). -/
theorem exec_encInstr {s : State} {b c : Byte} (hid : HasIdentity s b c) (k : CommandKind) :
    exec k.encInstr s = .next ((s.withTx (TxUnit.latch k b c)).reply .accepted) := by
  have henc : encodeCommand k s = (s.withTx (TxUnit.latch k b c)).reply .accepted := by
    simp only [encodeCommand, Identity.pair_eq_some.2 hid]
  cases k <;> exact congrArg Host.Outcome.next henc

/-- `ENC.k` and nine `TX.NEXT` deliver the frame and leave the TX unit idle (41_tx_encode.md R128). -/
theorem runOps_sendOps {s : State} {b c : Byte} (hid : HasIdentity s b c) (k : CommandKind) :
    ∃ t, runOps (sendOps k) s = some ((.accepted, none) :: (encodeFrame k b c).map fun d => (.byte d, none), t) ∧
      ∀ a, t.answering a = (s.withTx (sentTx k b c)).reply a := by
  have hdrain : ((s.withTx (TxUnit.latch k b c)).reply .accepted).tx.drain cmdLen = (encodeFrame k b c, sentTx k b c) :=
    TxUnit.drain_latch k b c
  obtain ⟨t, hrun, ht⟩ := runOps_txNext (n := cmdLen) (s := (s.withTx (TxUnit.latch k b c)).reply .accepted) rfl
    (by rw [hdrain]; rfl)
  rw [hdrain] at hrun ht
  exact ⟨t, runOps_cons.2 ⟨_, _, exec_encInstr hid k, hrun, rfl⟩, ht⟩

/-- The XOR of a command frame's body in closed form: the header and the length byte cancel (41_tx_encode.md R129). -/
theorem xorfold_commandBody (k : CommandKind) (b c : Byte) : xorfold (commandBody k b c) = b ^^^ k.op ^^^ c := by
  simp [commandBody, magic, cmdLenByte, ← BitVec.xor_assoc]

theorem exec_frameInstr (k : CommandKind) (b c x : Byte) (s : State) :
    exec (k.frameInstr b c x) s = .next (sendFrame k (commandBytes k b c x) s) := by
  cases k <;> rfl

/-- A command frame of the block's identity, its checksum right, is sent whole (41_tx_encode.md R121, R128; log 3). -/
theorem exec_frameInstr_of_identity {s : State} {b c : Byte} (hid : HasIdentity s b c) (k : CommandKind) :
    exec (k.frameInstr b c (b ^^^ k.op ^^^ c)) s =
      .next ((s.withTx (sentTx k b c)).reply (.frame (encodeFrame k b c))) := by
  have hbytes : commandBytes k b c (b ^^^ k.op ^^^ c) = encodeFrame k b c := by
    rw [← xorfold_commandBody]; rfl
  have hcompose : composeFrame k s = some (encodeFrame k b c, s.withTx (sentTx k b c)) := by
    simp only [composeFrame, Identity.pair_eq_some.2 hid, TxUnit.drain_latch, sentTx]
  rw [exec_frameInstr, hbytes]
  simp only [sendFrame, hcompose, if_true]

/-- A command frame sent is `ENC.k` and nine `TX.NEXT` (30_encoding.md R90; log 3). -/
theorem frameInstr_runs_sendOps {s : State} {b c : Byte} (hid : HasIdentity s b c) (k : CommandKind) :
    ∃ o t, runOps (sendOps k) s = some (o, t) ∧ o.map (·.1) = .accepted :: (encodeFrame k b c).map .byte ∧
      exec (k.frameInstr b c (b ^^^ k.op ^^^ c)) s = .next { t with answer := .frame (encodeFrame k b c) } := by
  obtain ⟨t, hrun, ht⟩ := runOps_sendOps hid k
  refine ⟨_, t, hrun, ?_, ?_⟩
  · simp
  · rw [exec_frameInstr_of_identity hid, ← ht]; rfl

/-! Receiving a chunk. -/

/-- `RX.BYTE`s of an open chunk are taken in order (43_rx_verify_parse.md R156). -/
theorem runOps_rxByte (bytes : List Byte) {s : State} (hopen : s.rx.phase = .opened) :
    runOps (bytes.map .rxByte) (s.reply .nothing) =
      some (List.replicate bytes.length (.nothing, none),
        (s.withRx (bytes.foldl (RxUnit.accept s.params.rxChunk) s.rx)).reply .nothing) := by
  induction bytes generalizing s with
  | nil => rfl
  | cons d bytes ih =>
    obtain ⟨hclosed, -⟩ | ⟨-, hexec⟩ := exec_rxByte_cases d (s.reply .nothing)
    · simp [hopen] at hclosed
    · exact runOps_cons.2 ⟨_, _, hexec, ih (s := s.withRx (s.rx.accept s.params.rxChunk d)) (by simpa using hopen), rfl⟩

/-- `RX.END` looks at the RX unit only, not at the outputs of the operation before. -/
theorem endChunk_reply (s : State) (a : Answer) : endChunk (s.reply a) = endChunk s := rfl

/-- Receiving a chunk is `RX.START`, an `RX.BYTE` per byte and `RX.END` (30_encoding.md R90). -/
theorem runOps_receiveOps {bytes : List Byte} {s t : State} (h : receiveChunk bytes s = .next t) :
    runOps (receiveOps bytes) s =
      some ((.nothing, none) :: List.replicate bytes.length (.nothing, none) ++ [(t.answer, t.rxDone)], t) := by
  have hbytes := runOps_rxByte bytes (s := s.withRx RxUnit.started) rfl
  have hend : exec .rxEnd ((s.withRx (bytes.foldl (RxUnit.accept s.params.rxChunk) RxUnit.started)).reply .nothing) =
      .next t := by
    obtain ⟨hclosed, -⟩ | ⟨-, hexec⟩ := exec_rxEnd_cases
      ((s.withRx (bytes.foldl (RxUnit.accept s.params.rxChunk) RxUnit.started)).reply .nothing)
    · simp [RxUnit.foldl_accept_phase, RxUnit.started] at hclosed
    · rw [hexec, endChunk_reply]; exact h
  exact runOps_append (runOps_cons.2 ⟨_, _, rfl, hbytes, rfl⟩) (runOps_singleton hend)

/-- The response kind that an echo selects is received as a chunk (log 4). -/
theorem exec_responseInstr (l b e st c k x : Byte) (s : State) :
    exec (responseInstr l b e st c k x) s = receiveChunk (responseBytes l b e st c k x) s := by
  obtain ⟨rfl, h⟩ | ⟨rfl, h⟩ | ⟨-, h⟩ := responseInstr_cases l b e st c k x <;> rw [h] <;> rfl

/-- Settles O33: a command frame is its send operations, a response frame its receive operations. -/
theorem framesRunTheirOperations : Obligations.FramesRunTheirOperations := by
  refine ⟨fun b c s hid => ⟨frameInstr_runs_sendOps hid .unlock, frameInstr_runs_sendOps hid .status⟩, ?_⟩
  intro l b e st c k x s _
  obtain ⟨t, ht⟩ := receiveChunk_completes (responseBytes l b e st c k x) s
  exact ⟨_, t, runOps_receiveOps ht, (exec_responseInstr l b e st c k x s).trans ht⟩

/-! Receiving and reading back. -/

/-- `RD.FIELD f` after an `Ok` answers the captured byte it names (45_system_ops.md R193). -/
theorem exec_rdField_of_ok {f b : Byte} {i : Nat} {s : State} (hf : fieldOffset f = some i)
    (hok : s.rx.result = some .ok) (hb : s.rx.cap.read i = some b) :
    exec (.rdField f) s = .next (s.reply (.byte b)) := by
  simp [exec, execRdField, hf, hok, hb]

/-- After an `Ok` the six field reads answer the parsed fields and change no register (45_system_ops.md R193). -/
theorem runOps_fieldReads {s : State} {p : ParsedResponse} (hok : s.rx.result = some .ok) (hp : s.rx.parsed = some p) :
    runOps (readsAfter (.result (some .ok))) s =
      some ([(.byte p.len, none), (.byte p.board, none), (.byte p.cmd, none), (.byte p.status, none),
        (.byte p.chan, none), (.byte p.lock, none)], s.reply (.byte p.lock)) := by
  rw [RxUnit.parsed, if_pos hok] at hp
  obtain ⟨h4, h5, h6, h7, h8, h9⟩ := Captures.fields_eq_some.1 hp
  have hread {f b : Byte} {i : Nat} {is : List Instr} {o : List Observation} {t u : State} (hrx : t.rx = s.rx)
      (hf : fieldOffset f = some i) (hb : s.rx.cap.read i = some b) (hrest : runOps is (t.reply (.byte b)) = some (o, u)) :
      runOps (.rdField f :: is) t = some ((.byte b, none) :: o, u) :=
    runOps_cons.2 ⟨_, o, exec_rdField_of_ok hf (by rw [hrx, hok]) (by rw [hrx, hb]), hrest, rfl⟩
  exact hread rfl rfl h4 <| hread rfl rfl h5 <| hread rfl rfl h6 <| hread rfl rfl h7 <| hread rfl rfl h8 <|
    hread rfl rfl h9 rfl

/-- `verify` gives back the fields of a response, whatever follows it (43_rx_verify_parse.md R154, R167). -/
theorem verify_mkResponse_append (p : ParsedResponse) (tail : List Byte) : verify (mkResponse p ++ tail) = .ok p := by
  rw [verify_eq_ok]
  exact ⟨rfl, by simp [mkResponse, responseBody, magic, respLen], rfl, rfl⟩

/-- `verify(bytes)` is its judging operations and then the reads that their answer asks for (30_encoding.md R90). -/
theorem runVerify_eq {bytes : List Byte} {s t u : State} {o o' : List Observation}
    (hjudge : runOps (judgeOps bytes) s = some (o, t)) (hreads : runOps (readsAfter t.answer) t = some (o', u)) :
    runVerify bytes s = some (o ++ o', u) := by
  simp only [runVerify, hjudge, hreads]

/-- Settles O46: the chunk is judged as `verify` judges its bytes; after an `Ok` the reads answer its fields, and otherwise
there is nothing to read. -/
theorem receivedFieldsReadBack : Obligations.ReceivedFieldsReadBack := by
  constructor
  · intro p tail s hlen
    obtain ⟨t, ht⟩ := receiveChunk_completes (mkResponse p ++ tail) s
    obtain ⟨-, -, hresult, -, hparsed⟩ := receiveChunk_judged hlen ht
    rw [verify_mkResponse_append] at hresult hparsed
    have hreads := runOps_fieldReads (s := t.reply (.result t.rx.result)) hresult hparsed
    exact ⟨_, t, runOps_receiveOps ht, runOps_cons.2 ⟨_, _, rfl, hreads, by rw [State.reply_answer, hresult]; rfl⟩⟩
  · intro bytes s hlen
    obtain ⟨t, ht⟩ := receiveChunk_completes bytes s
    obtain ⟨-, -, hresult, -, hparsed⟩ := receiveChunk_judged hlen ht
    have hjudge := runOps_append (runOps_receiveOps ht) (runOps_singleton (i := .rdResult) rfl)
    have hanswer : (t.reply (.result t.rx.result)).answer = .result (some (verdictOf (verify bytes))) := by
      rw [State.reply_answer, hresult]
    refine ⟨_, t.reply (.result t.rx.result), hjudge, by simp, hanswer, ?_⟩
    cases hv : verify bytes with
    | ok p =>
      rw [hv] at hanswer hresult hparsed
      exact runVerify_eq hjudge (by rw [hanswer]; exact runOps_fieldReads hresult hparsed)
    | error e =>
      have hnone : readsAfter (t.reply (.result t.rx.result)).answer = [] := by
        rw [hanswer, hv]; cases e <;> rfl
      simpa using runVerify_eq hjudge (by rw [hnone]; rfl)

end Sys2Proof.Machine
end

section
/-! The XOR checksum of whole sequences (40_checksum.md): the laws of `xorfold` (O5), the checksum test as a zero XOR (O7)
and what a change of one byte does to a frame that passes it (O6). -/

namespace Sys2Proof

/-! The laws of `xorfold`. -/

/-- The concatenation law (40_checksum.md R107). -/
theorem xorfold_append (a b : List Byte) : xorfold (a ++ b) = xorfold a ^^^ xorfold b := by
  induction a with
  | nil => simp
  | cons x a ih => rw [List.cons_append, xorfold_cons, ih, xorfold_cons, BitVec.xor_assoc]

/-- The order of the bytes does not matter (40_checksum.md R107). -/
theorem xorfold_perm {a b : List Byte} (h : a.Perm b) : xorfold a = xorfold b := by
  induction h with
  | nil => rfl
  | cons x _ ih => rw [xorfold_cons, xorfold_cons, ih]
  | swap x y l => simp only [xorfold_cons]; ac_rfl
  | trans _ _ ih₁ ih₂ => exact ih₁.trans ih₂

/-- Settles O5: the laws are those of one more byte, of concatenation and of permutation. -/
theorem xorfoldLaws : Obligations.XorfoldLaws :=
  ⟨xorfold_nil, xorfold_concat, fun b => ⟨by simp, by simp⟩, xorfold_append, fun _ _ => xorfold_perm,
    fun s => (xorfold_concat s _).trans BitVec.xor_self⟩

/-- The XOR of the differences of two sequences of one length is the difference of their XORs (40_checksum.md R109). -/
theorem xorfold_zipWith_xor {f g : List Byte} (h : g.length = f.length) :
    xorfold (List.zipWith (· ^^^ ·) f g) = xorfold f ^^^ xorfold g := by
  induction f generalizing g with
  | nil => simp [List.length_eq_zero_iff.1 h]
  | cons x f ih =>
    obtain ⟨y, g, rfl⟩ := List.exists_cons_of_length_eq_add_one h
    rw [List.zipWith_cons_cons, xorfold_cons, ih (Nat.succ_injective h), xorfold_cons, xorfold_cons]
    ac_rfl

/-- Putting `b` for the byte at `i` changes the XOR by the difference of the two. -/
theorem xorfold_set {f : List Byte} {i : Nat} (hi : i < f.length) (b : Byte) :
    xorfold (f.set i b) = xorfold f ^^^ (f[i] ^^^ b) := by
  have hsplit : xorfold f = xorfold (f.take i) ^^^ (f[i] ^^^ xorfold (f.drop (i + 1))) := by
    rw [← xorfold_cons, ← List.drop_eq_getElem_cons hi, ← xorfold_append, List.take_append_drop]
  calc xorfold (f.set i b)
      = xorfold (f.take i) ^^^ (b ^^^ xorfold (f.drop (i + 1))) := by
        rw [List.set_eq_take_append_cons_drop, if_pos hi, xorfold_append, xorfold_cons]
    _ = xorfold (f.take i) ^^^ (f[i] ^^^ f[i] ^^^ b ^^^ xorfold (f.drop (i + 1))) := by
        rw [BitVec.xor_self, BitVec.zero_xor]
    _ = xorfold f ^^^ (f[i] ^^^ b) := by rw [hsplit]; ac_rfl

/-! The checksum test. -/

@[simp] theorem checksumOk_nil : checksumOk [] = false := rfl

@[simp] theorem checksumOk_concat (s : List Byte) (x : Byte) : checksumOk (s ++ [x]) = (x == xorfold s) := by
  simp [checksumOk]

/-- A nonempty frame passes the test when the XOR of all its bytes is zero (40_checksum.md R105). -/
theorem checksumOk_iff_of_ne_nil {f : List Byte} (h : f ≠ []) : checksumOk f = true ↔ xorfold f = 0x00 := by
  obtain rfl | ⟨s, x, rfl⟩ := f.eq_nil_or_concat'
  · exact absurd rfl h
  · rw [checksumOk_concat, xorfold_concat, beq_iff_eq, eq_comm]
    exact BitVec.xor_eq_zero_iff.symm

theorem ne_nil_of_checksumOk {f : List Byte} (h : checksumOk f = true) : f ≠ [] := by
  rintro rfl
  simp at h

theorem xorfold_of_checksumOk {f : List Byte} (h : checksumOk f = true) : xorfold f = 0x00 :=
  (checksumOk_iff_of_ne_nil (ne_nil_of_checksumOk h)).1 h

/-- Against a frame that passes, a frame of its length passes when the differences cancel (40_checksum.md R109). -/
theorem checksumOk_iff_xorfold_zipWith {f g : List Byte} (hf : checksumOk f = true) (hlen : g.length = f.length) :
    checksumOk g = true ↔ xorfold (List.zipWith (· ^^^ ·) f g) = 0x00 := by
  have hg : g ≠ [] := by
    rintro rfl
    exact ne_nil_of_checksumOk hf (List.length_eq_zero_iff.1 hlen.symm)
  simp [checksumOk_iff_of_ne_nil hg, xorfold_zipWith_xor hlen, xorfold_of_checksumOk hf]

/-- No other byte in the place of one passes (40_checksum.md R108). -/
theorem checksumOk_set_of_ne {f : List Byte} {i : Nat} {b : Byte} (hf : checksumOk f = true) (hi : i < f.length)
    (hb : b ≠ f[i]) : checksumOk (f.set i b) = false := by
  have hne : f.set i b ≠ [] := mt (List.set_eq_nil_iff i b).1 (ne_nil_of_checksumOk hf)
  rw [Bool.eq_false_iff, ne_eq, checksumOk_iff_of_ne_nil hne, xorfold_set hi, xorfold_of_checksumOk hf]
  simpa using hb.symm

/-! `verify` on whole response frames. -/

/-- On eleven bytes `verify` is the header match and then the checksum test (43_rx_verify_parse.md R150). -/
theorem verify_of_length {f : List Byte} (hlen : f.length = respLen) :
    verify f = if hdrMatch f = false then .error .headerMismatch
      else if checksumOk f = true then .ok (parse f) else .error .checksumMismatch := by
  obtain ⟨s, x, rfl⟩ : ∃ s x, f = s ++ [x] := f.eq_nil_or_concat'.resolve_left (by rintro rfl; simp [respLen] at hlen)
  have hs : respLen - 1 = s.length := by simp at hlen; omega
  simp [verify, hlen, hs, List.getElem?_concat_length]

theorem verify_eq_ok_of_length {f : List Byte} {p : ParsedResponse} (hlen : f.length = respLen) :
    verify f = .ok p ↔ hdrMatch f = true ∧ checksumOk f = true ∧ p = parse f := by
  rw [verify_of_length hlen]
  split_ifs with hhdr hsum <;> simp [*, eq_comm (a := p)]

/-- With the same first four bytes the header match is the same (42_rx_header_detect.md R140). -/
theorem hdrMatch_congr {f g : List Byte} (h : g.take 4 = f.take 4) : hdrMatch g = hdrMatch f := by
  rw [hdrMatch, hdrMatch, h]

/-- A header that matches stops matching when one of its bytes is changed. -/
theorem hdrMatch_set_of_ne {f : List Byte} {i : Nat} {b : Byte} (hf : hdrMatch f = true) (hi : i < f.length)
    (hb : b ≠ f[i]) (h3 : i ≤ 3) : hdrMatch (f.set i b) = false := by
  rw [Bool.eq_false_iff]
  intro hg
  have htake : (f.set i b).take 4 = f.take 4 := (beq_iff_eq.1 hg).trans (beq_iff_eq.1 hf).symm
  exact hb (by simpa [List.getElem?_take_of_lt (Nat.lt_succ_of_le h3), hi] using congrArg (·[i]?) htake)

/-- One byte of a verified response changed: the verdict names the part it is in (43_rx_verify_parse.md R161). -/
theorem verify_set_of_ne {f : List Byte} {i : Nat} {b : Byte} {p : ParsedResponse} (hlen : f.length = respLen)
    (hf : verify f = .ok p) (hi : i < f.length) (hb : b ≠ f[i]) :
    verify (f.set i b) = .error (if i ≤ 3 then .headerMismatch else .checksumMismatch) := by
  obtain ⟨hhdr, hsum, -⟩ := (verify_eq_ok_of_length hlen).1 hf
  rw [verify_of_length (by simpa using hlen)]
  by_cases h3 : i ≤ 3
  · rw [if_pos (hdrMatch_set_of_ne hhdr hi hb h3), if_pos h3]
  · have hkeep : hdrMatch (f.set i b) = true := by
      rw [hdrMatch_congr (List.take_set_of_le (by omega)), hhdr]
    simp [hkeep, checksumOk_set_of_ne hsum hi hb, h3]

/-- A sequence that differs from `f` at exactly the offset `i` is `f` with another byte put there. -/
theorem eq_set_of_differs_at {f g : List Byte} {i : Nat} (hlen : g.length = f.length)
    (hsame : ∀ j, j ≠ i → g[j]? = f[j]?) (hdiff : g[i]? ≠ f[i]?) :
    ∃ (hi : i < f.length) (b : Byte), b ≠ f[i] ∧ g = f.set i b := by
  have hi : i < f.length := by
    by_contra hge
    exact hdiff (by rw [List.getElem?_eq_none (by omega), List.getElem?_eq_none (by omega)])
  have hg : i < g.length := by omega
  refine ⟨hi, g[i], fun heq => hdiff ?_, List.ext_getElem? fun j => ?_⟩
  · rw [List.getElem?_eq_getElem hg, List.getElem?_eq_getElem hi, heq]
  · obtain rfl | hj := eq_or_ne j i
    · rw [List.getElem?_set_self hi, List.getElem?_eq_getElem hg]
    · rw [List.getElem?_set_ne hj.symm, hsame j hj]

/-- Settles O6: the changed frame is the old one with another byte at the offset. -/
theorem singleByteErrorsDetected : Obligations.SingleByteErrorsDetected := by
  constructor
  · intro f g i hf hlen hsame hdiff
    obtain ⟨hi, b, hb, rfl⟩ := eq_set_of_differs_at hlen hsame hdiff
    exact checksumOk_set_of_ne hf hi hb
  · intro f g i p hf hok hg hsame hdiff
    obtain ⟨hi, b, hb, rfl⟩ := eq_set_of_differs_at (hg.trans hf.symm) hsame hdiff
    exact verify_set_of_ne hf hok hi hb

/-- Settles O7: the XOR of the differences is the XOR of the changed frame, and on eleven bytes `verify` asks for the
header and the checksum only. -/
theorem cancellingErrorsPass : Obligations.CancellingErrorsPass := by
  refine ⟨fun f => checksumOk_iff_of_ne_nil, fun f g => checksumOk_iff_xorfold_zipWith, ?_⟩
  intro f g p hf hok hg htake hcancel
  obtain ⟨hhdr, hsum, -⟩ := (verify_eq_ok_of_length hf).1 hok
  exact (verify_eq_ok_of_length hg).2
    ⟨(hdrMatch_congr htake).trans hhdr, (checksumOk_iff_xorfold_zipWith hsum (hg.trans hf.symm)).2 hcancel, rfl⟩

end Sys2Proof
end

section
/-! Command frames (41_tx_encode.md): the bytes of `encode` in closed form (O8) and which byte sequences they are (O9). -/

namespace Sys2Proof

/-- The nine bytes of a command frame, its checksum in closed form (41_tx_encode.md R120, R129). -/
theorem encodeFrame_eq (k : CommandKind) (b c : Byte) :
    encodeFrame k b c = [0x57, 0x4B, 0x4C, 0x59, 0x09, b, k.op, c, b ^^^ k.op ^^^ c] := by
  rw [encodeFrame, Machine.xorfold_commandBody]
  rfl

/-- The checksum byte of a command frame (41_tx_encode.md R129). -/
theorem encodeFrame_checksum (k : CommandKind) (b c : Byte) : (encodeFrame k b c)[8]? = some (b ^^^ k.op ^^^ c) := by
  rw [encodeFrame_eq]
  rfl

/-- Identity bytes enter the checksums of both kinds alike, so only the command bytes tell them apart
(41_tx_encode.md R129). -/
theorem xor_identity_cancel (b p q c : Byte) : (b ^^^ p ^^^ c) ^^^ (b ^^^ q ^^^ c) = p ^^^ q :=
  calc (b ^^^ p ^^^ c) ^^^ (b ^^^ q ^^^ c) = (b ^^^ b) ^^^ (c ^^^ c) ^^^ (p ^^^ q) := by ac_rfl
    _ = p ^^^ q := by simp

/-- Settles O8: all of it is read off the closed form. -/
theorem commandFrameBytes : Obligations.CommandFrameBytes := by
  intro k b c
  refine ⟨encodeFrame_eq k b c, rfl, rfl, rfl, ?_, ?_⟩
  · rintro rfl
    calc (encodeFrame k b b)[8]? = some (b ^^^ k.op ^^^ b) := encodeFrame_checksum k b b
      _ = some k.op := by rw [BitVec.xor_comm b, BitVec.xor_assoc, BitVec.xor_self, BitVec.xor_zero]
  · intro x y hx hy
    rw [encodeFrame_checksum, Option.some.injEq] at hx hy
    rw [← hx, ← hy, xor_identity_cancel]
    rfl

theorem CommandKind.op_injective : Function.Injective CommandKind.op := by
  intro k k'
  cases k <;> cases k' <;> decide

/-- Bytes that start as a command frame are a value of `encode` when kind and identity are its own and the checksum is
right. -/
theorem commandBytes_eq_encodeFrame {k k' : CommandKind} {b b' c c' x : Byte} :
    commandBytes k b c x = encodeFrame k' b' c' ↔ k = k' ∧ b = b' ∧ c = c' ∧ x = b ^^^ k.op ^^^ c := by
  have hbytes : commandBytes k b c x = [0x57, 0x4B, 0x4C, 0x59, 0x09, b, k.op, c, x] := rfl
  rw [hbytes, encodeFrame_eq]
  constructor
  · intro h
    obtain ⟨rfl, hop, rfl, rfl⟩ : b = b' ∧ k.op = k'.op ∧ c = c' ∧ x = b' ^^^ k'.op ^^^ c' := by simpa using h
    cases CommandKind.op_injective hop
    exact ⟨rfl, rfl, rfl, rfl⟩
  · rintro ⟨rfl, rfl, rfl, rfl⟩
    rfl

/-- `encode` loses nothing of what it is given (41_tx_encode.md R130). -/
theorem encodeFrame_injective {k k' : CommandKind} {b b' c c' : Byte} (h : encodeFrame k b c = encodeFrame k' b' c') :
    k = k' ∧ b = b' ∧ c = c' := by
  obtain ⟨hk, hb, hc, -⟩ := (commandBytes_eq_encodeFrame (x := xorfold (commandBody k b c))).1 h
  exact ⟨hk, hb, hc⟩

/-- The two command bytes are those of the two kinds (30_encoding.md R80). -/
theorem CommandKind.exists_op_eq {o : Byte} : (∃ k : CommandKind, k.op = o) ↔ o = 0x82 ∨ o = 0x83 := by
  constructor
  · rintro ⟨k | k, rfl⟩
    · exact .inl rfl
    · exact .inr rfl
  · rintro (rfl | rfl)
    · exact ⟨.unlock, rfl⟩
    · exact ⟨.status, rfl⟩

/-- A sequence that meets the conditions of a command frame is the value of `encode` for its kind and identity
(30_encoding.md R71, 41_tx_encode.md R130). -/
theorem eq_encodeFrame_of_wellFormed {s : List Byte} (hlen : s.length = 9)
    (hmagic : s.take 4 = [0x57, 0x4B, 0x4C, 0x59]) (hlenByte : s[4]? = some 0x09)
    (hop : s[6]? = some 0x82 ∨ s[6]? = some 0x83) (hsum : s[8]? = some (xorfold (s.take 8))) :
    ∃ k b c, s = encodeFrame k b c := by
  match s, hlen with
  | [m0, m1, m2, m3, l, b, o, c, x], _ =>
    obtain ⟨rfl, rfl, rfl, rfl⟩ : m0 = 0x57 ∧ m1 = 0x4B ∧ m2 = 0x4C ∧ m3 = 0x59 := by simpa using hmagic
    obtain rfl : l = 0x09 := by simpa using hlenByte
    obtain ⟨k, rfl⟩ : ∃ k : CommandKind, k.op = o := CommandKind.exists_op_eq.2 (by simpa using hop)
    obtain rfl : x = xorfold (commandBody k b c) := Option.some.inj hsum
    exact ⟨k, b, c, rfl⟩

/-- Settles O9: both halves by the bytes at the offsets. -/
theorem encodeIsInjectiveOntoCommandFrames : Obligations.EncodeIsInjectiveOntoCommandFrames := by
  refine ⟨fun k k' b b' c c' => encodeFrame_injective, fun s => ⟨?_, ?_⟩⟩
  · rintro ⟨hlen, hmagic, hlenByte, hop, hsum⟩
    obtain ⟨k, b, c, rfl⟩ := eq_encodeFrame_of_wellFormed hlen hmagic hlenByte hop hsum
    exact ⟨k, b, c, rfl, rfl, rfl, rfl⟩
  · rintro ⟨k, b, c, rfl, -, -, -⟩
    refine ⟨rfl, rfl, rfl, ?_, rfl⟩
    cases k
    · exact .inl rfl
    · exact .inr rfl

end Sys2Proof
end

section
/-! The operations of the TX unit (41_tx_encode.md): each gives its next state, whole (O17 to O20), and so does a command
frame (O31). -/

namespace Sys2Proof.Machine

/-- Settles O17: the latch of either kind, whatever the TX unit held. -/
theorem encLatchesTheIdentity : Obligations.EncLatchesTheIdentity :=
  fun _ _ _ hid => ⟨exec_encInstr hid .unlock, exec_encInstr hid .status⟩

/-- `ENC.k` without an identity is refused (41_tx_encode.md R124). -/
theorem encodeCommand_of_unset {s : State} (h : s.ident.board = none ∨ s.ident.chan = none) (k : CommandKind) :
    encodeCommand k s = s.refuse := by
  obtain ⟨-, hrefuse⟩ | ⟨b, c, hpair, -⟩ := encodeCommand_cases k s
  · exact hrefuse
  · simp [Identity.pair_eq_none.2 h] at hpair

/-- Settles O18: both kinds compose from the same identity registers. -/
theorem encRefusedWithoutIdentity : Obligations.EncRefusedWithoutIdentity :=
  fun _ h => ⟨congrArg Host.Outcome.next (encodeCommand_of_unset h .unlock),
    congrArg Host.Outcome.next (encodeCommand_of_unset h .status)⟩

/-- `TX.NEXT` of a busy unit gives the byte at the offset (41_tx_encode.md R125). -/
theorem exec_txNext_of_busy {s : State} (hbusy : s.tx.busy = true) :
    exec .txNext s = .next ((s.withTx s.tx.advance).reply (.byte (s.tx.byteAt s.tx.idx.val))) := by
  obtain ⟨hidle, -⟩ | ⟨-, h⟩ := exec_txNext_cases s
  · simp [hbusy] at hidle
  · exact h

/-- Settles O20: the answer is all that changes. -/
theorem txNextEmptyWhenIdle : Obligations.TxNextEmptyWhenIdle := by
  intro s hidle
  obtain ⟨-, h⟩ | ⟨hbusy, -⟩ := exec_txNext_cases s
  · exact h
  · simp [hidle] at hbusy

/-- The bytes before the checksum go out as they stand in the frame's body (20_memory.md R56, 41_tx_encode.md R125). -/
theorem TxUnit.body_getElem? (tx : TxUnit) {i : Nat} (hi : i ≤ 7) : tx.body[i]? = some (tx.byteAt i) := by
  interval_cases i <;> rfl

/-- The last offset is the checksum's (20_memory.md R56, 41_tx_encode.md R125). -/
theorem TxUnit.byteAt_checksum (tx : TxUnit) : tx.byteAt 8 = tx.xor := rfl

/-- Settles O19: a byte of the body below offset 8, the accumulated XOR at offset 8. -/
theorem txNextDeliversTheFrame : Obligations.TxNextDeliversTheFrame := by
  refine ⟨fun d => by simp [decode, decodePort], fun s hbusy => ⟨fun b hidx hb => ?_, fun hidx => ?_⟩⟩
  · obtain rfl : s.tx.byteAt s.tx.idx.val = b := Option.some.inj ((s.tx.body_getElem? hidx).symm.trans hb)
    have hsucc : (⟨s.tx.idx.val + 1, by omega⟩ : Fin 9) = s.tx.idx + 1 :=
      Fin.ext (Fin.val_add_one_of_lt (Nat.lt_succ_of_le hidx)).symm
    rw [exec_txNext_of_busy hbusy, TxUnit.advance_body hidx, hsucc]
    rfl
  · rw [exec_txNext_of_busy hbusy, TxUnit.advance_last (by omega), hidx, TxUnit.byteAt_checksum]
    rfl

/-- A command frame that the block cannot compose is refused (41_tx_encode.md R124; log 3). -/
theorem exec_frameInstr_refused {k : CommandKind} {b c x : Byte} {s : State}
    (h : ¬ (HasIdentity s b c ∧ x = b ^^^ k.op ^^^ c)) : exec (k.frameInstr b c x) s = .next s.refuse := by
  rw [exec_frameInstr]
  obtain hrefuse | ⟨b', c', hpair, hbytes, -⟩ := sendFrame_cases k (commandBytes k b c x) s
  · rw [hrefuse]
  · obtain ⟨-, rfl, rfl, hsum⟩ := commandBytes_eq_encodeFrame.1 hbytes
    exact absurd ⟨Identity.pair_eq_some.1 hpair, hsum⟩ h

/-- A command frame of the block's identity is sent, its nine bytes with the right checksum (41_tx_encode.md R121, R122,
R128; log 3). -/
theorem exec_frameInstr_sent {k : CommandKind} {b c x : Byte} {s : State} (hid : HasIdentity s b c)
    (hsum : x = b ^^^ k.op ^^^ c) :
    exec (k.frameInstr b c x) s =
      .next ((s.withTx (sentTx k b c)).reply (.frame [0x57, 0x4B, 0x4C, 0x59, 0x09, b, k.op, c, x])) := by
  rw [hsum, ← encodeFrame_eq, exec_frameInstr_of_identity hid]

/-- Settles O31: the two kinds are sent or refused alike. -/
theorem commandFrameIsSent : Obligations.CommandFrameIsSent :=
  fun _ _ _ _ => ⟨exec_frameInstr_sent (k := .unlock), exec_frameInstr_sent (k := .status),
    exec_frameInstr_refused (k := .unlock), exec_frameInstr_refused (k := .status)⟩

end Sys2Proof.Machine
end

section
/-! The two layers agree on the transmit side (O43). The TX invariant (10_state.md R27) fixes the bytes that a busy unit has
still to give; `TX.NEXT` takes the first of them, and no operation outside the TX group touches them. -/

namespace Sys2Proof.Machine

/-- The frame the latches stand for (41_tx_encode.md R120). -/
def TxUnit.frame (tx : TxUnit) : List Byte := tx.body ++ [xorfold tx.body]

/-- The bytes the unit has still to give, none when it is idle. -/
def TxUnit.pending (tx : TxUnit) : List Byte := if tx.busy then tx.frame.drop tx.idx.val else []

theorem TxUnit.frame_length (tx : TxUnit) : tx.frame.length = 9 := rfl

theorem TxUnit.pending_of_idle {tx : TxUnit} (h : tx.busy = false) : tx.pending = [] := by
  simp [TxUnit.pending, h]

theorem TxUnit.pending_of_busy {tx : TxUnit} (h : tx.busy = true) : tx.pending = tx.frame.drop tx.idx.val := by
  simp [TxUnit.pending, h]

/-- A busy unit has at least its checksum to give (10_state.md R24). -/
theorem TxUnit.pending_eq_nil {tx : TxUnit} : tx.pending = [] ↔ tx.busy = false := by
  refine ⟨fun hnil => Bool.eq_false_iff.2 fun hbusy => ?_, TxUnit.pending_of_idle⟩
  rw [TxUnit.pending_of_busy hbusy, List.drop_eq_nil_iff, TxUnit.frame_length] at hnil
  omega

theorem TxUnit.pending_latch (k : CommandKind) (b c : Byte) : (TxUnit.latch k b c).pending = encodeFrame k b c := rfl

/-- While busy, the byte at the offset is that byte of the frame: at offset 8 because the accumulated XOR is the body's
(10_state.md R27). -/
theorem TxInv.frame_getElem? {tx : TxUnit} (h : TxInv tx) (hbusy : tx.busy = true) :
    tx.frame[tx.idx.val]? = some (tx.byteAt tx.idx.val) := by
  obtain ⟨-, hxor⟩ := h.2 hbusy
  by_cases hidx : tx.idx.val ≤ 7
  · rw [TxUnit.frame, List.getElem?_append_left (Nat.lt_succ_of_le hidx), TxUnit.body_getElem? tx hidx]
  · have hlast : tx.idx.val = 8 := by omega
    rw [hlast, TxUnit.byteAt_checksum, hxor, hlast]
    rfl

/-- `TX.NEXT` moves on to the rest of the frame. -/
theorem TxUnit.pending_advance {tx : TxUnit} (hbusy : tx.busy = true) :
    tx.advance.pending = tx.frame.drop (tx.idx.val + 1) := by
  by_cases hidx : tx.idx.val ≤ 7
  · rw [TxUnit.advance_body hidx]
    exact TxUnit.pending_of_busy hbusy
  · have hall : tx.frame.drop (tx.idx.val + 1) = [] := by rw [List.drop_eq_nil_iff, TxUnit.frame_length]; omega
    rw [TxUnit.advance_last hidx, hall]
    rfl

/-- What a busy unit has to give is the byte at its offset and then what it has to give after it. -/
theorem TxInv.pending_eq_cons {tx : TxUnit} (h : TxInv tx) (hbusy : tx.busy = true) :
    tx.pending = tx.byteAt tx.idx.val :: tx.advance.pending := by
  rw [TxUnit.pending_of_busy hbusy, TxUnit.pending_advance hbusy,
    List.drop_eq_getElem?_toList_append, h.frame_getElem? hbusy]
  rfl

/-- `TX.NEXT` answers the first pending byte, `empty` if there is none, and leaves the others (41_tx_encode.md R125,
R126). -/
theorem exec_txNext_pending {s t : State} (hs : TxInv s.tx) (h : exec .txNext s = .next t) :
    t.answer = (s.tx.pending.map .byte).headD .empty ∧ t.tx.pending = s.tx.pending.tail := by
  obtain ⟨hidle, h'⟩ | ⟨hbusy, h'⟩ := exec_txNext_cases s <;> cases h'.symm.trans h
  · simp [TxUnit.pending_of_idle hidle]
  · simp [hs.pending_eq_cons hbusy]

/-- Outside the TX group only `RESET` writes the TX unit (10_state.md R20). -/
theorem exec_keeps_tx {i : Instr} {s t : State} (hi : isTx i = false) (hreset : i ≠ .reset) (h : exec i s = .next t) :
    t.tx = s.tx := by
  obtain htx | hrx | hident | hread | hr := isTx_or_isRx_or_isIdent_or_isRead_or_reset i
  · simp [hi] at htx
  · obtain ⟨-, hkeep⟩ := exec_outside_rx hrx h
    exact hkeep
  · obtain ⟨hkeep, -⟩ := exec_outside_ident hident h
    exact hkeep
  · obtain ⟨-, hkeep, -⟩ := exec_outside_read hread h
    exact hkeep
  · exact absurd hr hreset

theorem txAnswers_cons_of_ne {i : Instr} (hi : i ≠ .txNext) (is : List Instr) (o : Observation) (os : List Observation) :
    txAnswers (i :: is) (o :: os) = txAnswers is os := by
  cases i with
  | txNext => exact absurd rfl hi
  | _ => rfl

/-- An operation that R128 allows between `ENC.k` and the last `TX.NEXT` (41_tx_encode.md R128). -/
def Interleaves (i : Instr) : Prop := i = .txNext ∨ (isTx i = false ∧ i ≠ .reset)

/-- `TX.NEXT`s among other operations answer the pending bytes in order and then `empty`, and leave the others pending. -/
theorem runOps_pending {is : List Instr} {s : State} (hs : GoodState s) (his : ∀ i ∈ is, Interleaves i) :
    ∃ o t, runOps is s = some (o, t) ∧ GoodState t ∧
      txAnswers is o = (s.tx.pending.map Answer.byte).takeD (is.count .txNext) .empty ∧
      t.tx.pending = s.tx.pending.drop (is.count .txNext) := by
  induction is generalizing s with
  | nil => exact ⟨[], s, rfl, hs, rfl, rfl⟩
  | cons i is ih =>
    obtain ⟨hi, his⟩ := List.forall_mem_cons.1 his
    have ⟨hinv, hrx, _, _⟩ := hs
    obtain ⟨m, hm⟩ := exec_completes hrx i
    obtain ⟨o, t, hrun, ht, hanswers, hpending⟩ := ih (exec_good hs hm) his
    refine ⟨_, t, runOps_cons.2 ⟨m, o, hm, hrun, rfl⟩, ht, ?_⟩
    obtain rfl | ⟨htx, hreset⟩ := hi
    · obtain ⟨hanswer, hrest⟩ := exec_txNext_pending hinv hm
      rw [List.count_cons_self, hpending, hrest, List.drop_tail]
      exact ⟨by rw [txAnswers, hanswers, hanswer, hrest, List.map_tail, List.takeD], rfl⟩
    · have hne : i ≠ .txNext := by rintro rfl; cases htx
      rw [List.count_cons_of_ne hne, txAnswers_cons_of_ne hne, hpending, hanswers, exec_keeps_tx htx hreset hm]
      exact ⟨rfl, rfl⟩

/-- Filling up with a value is taking from the list with enough of that value after it. -/
theorem takeD_eq_take_append_replicate {α : Type} (n : Nat) (l : List α) (a : α) :
    l.takeD n a = (l ++ List.replicate n a).take n := by
  induction n generalizing l with
  | zero => rfl
  | succ n ih =>
    cases l with
    | nil => rw [List.takeD_nil, List.nil_append, List.take_replicate, Nat.min_self]
    | cons x l =>
      rw [List.takeD, List.headD_cons, List.tail_cons, ih]
      simp [List.take_append, Nat.le_add_right_of_le]

/-- Settles O43: after `ENC.k` the whole frame is pending; nine `TX.NEXT`s leave none of it, and a unit without a pending
byte is idle. -/
theorem txDeliversEncode : Obligations.TxDeliversEncode := by
  intro k b c is s hs hid his
  have henc := exec_encInstr hid k
  obtain ⟨o, t, hrun, ⟨htx, -⟩, hanswers, hpending⟩ := runOps_pending (exec_good hs henc) his
  rw [State.reply_tx, State.withTx_tx, TxUnit.pending_latch] at hanswers hpending
  refine ⟨o, t, runOps_cons.2 ⟨_, o, henc, hrun, rfl⟩, ?_, fun hnine => ?_⟩
  · rw [hanswers, takeD_eq_take_append_replicate]
  · have hnone : t.tx.pending = [] := hpending.trans (List.drop_eq_nil_of_le hnine)
    have hidle : t.tx.busy = false := TxUnit.pending_eq_nil.1 hnone
    exact ⟨hidle, htx.1 hidle⟩

end Sys2Proof.Machine
end

section
/-! The header detector agrees with `hdrMatch` (O45). A byte that finds the chunk full is dropped, so the registers tell of
the chunk's first `RX_CHUNK` bytes; with room for four they hold the whole header. -/

namespace Sys2Proof.Machine

section
variable {rxChunk : Nat} {s : List Byte} {rx : RxUnit}

/-- Of the bytes of an open chunk, the registers tell of those that fit (43_rx_verify_parse.md R156). -/
theorem RxHistory.foldl_accept_take (h : RxHistory rxChunk s rx) (hopen : rx.phase = .opened) (hfits : s.length ≤ rxChunk)
    (bytes : List Byte) :
    RxHistory rxChunk ((s ++ bytes).take rxChunk) (bytes.foldl (RxUnit.accept rxChunk) rx) := by
  induction bytes generalizing s rx with
  | nil => rwa [List.append_nil, List.take_of_length_le hfits]
  | cons d bytes ih =>
    have ⟨hmin, _⟩ := h
    have hcnt : rx.cnt = s.length := hmin.trans (min_eq_left hfits)
    rw [List.foldl_cons]
    by_cases hfull : rx.cnt = rxChunk
    · have hlen : s.length = rxChunk := hcnt.symm.trans hfull
      have hdropped : (s ++ d :: bytes).take rxChunk = (s ++ bytes).take rxChunk := by
        rw [List.take_left' hlen, List.take_left' hlen]
      rw [RxUnit.accept_full hfull, hdropped]
      exact ih h hopen hfits
    · rw [List.append_cons]
      exact ih (h.accept_counted hopen hfull d) (by simpa using hopen) (by simp; omega)

/-- `hdr_det` is `hdrMatch` of the bytes the registers tell of (42_rx_header_detect.md R142). -/
theorem RxHistory.hdrDet_eq (h : RxHistory rxChunk s rx) (hroom : 4 ≤ rxChunk) : rx.hdrDet = hdrMatch s := by
  obtain ⟨hcnt, hhdr, -⟩ := h
  have hcounted : 4 ≤ rx.cnt ↔ 4 ≤ s.length := by omega
  rw [Bool.eq_iff_iff]
  calc rx.hdrDet = true
      ↔ 4 ≤ rx.cnt ∧ rx.hdrOk = true := by simp [RxUnit.hdrDet]
    _ ↔ 4 ≤ s.length ∧ HeaderSoFar s := and_congr hcounted hhdr
    _ ↔ hdrMatch s = true := hdrMatch_iff.symm

end

/-- Settles O45: the first `RX_CHUNK` bytes and the whole list begin with the same four bytes. -/
theorem headerDetectorAgrees : Obligations.HeaderDetectorAgrees := by
  intro bytes s hroom
  have hbytes := runOps_rxByte bytes (s := s.withRx RxUnit.started) rfl
  have hhistory := (RxHistory.started s.params.rxChunk).foldl_accept_take rfl (Nat.zero_le _) bytes
  have hheader : (bytes.take s.params.rxChunk).take 4 = bytes.take 4 := by rw [List.take_take, min_eq_left hroom]
  exact ⟨_, _, runOps_cons.2 ⟨_, _, rfl, hbytes, rfl⟩, (hhistory.hdrDet_eq hroom).trans (hdrMatch_congr hheader)⟩

end Sys2Proof.Machine
end

section
/-! The functional verifiers (43_rx_verify_parse.md): `verifyCmd` on command frames (O10), and `verify` by its clauses (O12),
on sequences with more after the response (O13) and on the values of `mkResponse` (O11). -/

namespace Sys2Proof

/-- `verifyCmd` succeeds exactly on a matching header and a right checksum, with the bytes at the fixed offsets
(43_rx_verify_parse.md R165). -/
theorem verifyCmd_eq_ok {s : List Byte} {p : ParsedCommand} :
    verifyCmd s = .ok p ↔ hdrMatch s = true ∧ cmdLen ≤ s.length ∧
      s[cmdLen - 1]? = some (xorfold (s.take (cmdLen - 1))) ∧
      p = { len := s.getD 4 0, board := s.getD 5 0, cmd := s.getD 6 0, chan := s.getD 7 0 } := by
  unfold verifyCmd
  by_cases hhdr : hdrMatch s = true
  · by_cases hshort : s.length < cmdLen
    · simp [hhdr, hshort]
    · by_cases hsum : s[cmdLen - 1]? = some (xorfold (s.take (cmdLen - 1)))
      · simp [hhdr, hshort, not_lt.1 hshort, hsum, eq_comm]
      · simp [hhdr, hshort, hsum]
  · simp [hhdr]

/-- Settles O10: a frame of `encode` has the header, its checksum and its fields where `verifyCmd` looks for them. -/
theorem commandRoundTrip : Obligations.CommandRoundTrip :=
  fun _ _ _ => verifyCmd_eq_ok.2 ⟨rfl, le_rfl, rfl, rfl⟩

/-! `verify` by its clauses. -/

theorem hdrMatch_iff_take {s : List Byte} : hdrMatch s = true ↔ s.take 4 = [0x57, 0x4B, 0x4C, 0x59] := beq_iff_eq

/-- A wrong header fails first (43_rx_verify_parse.md R150). -/
theorem verify_of_not_hdrMatch {s : List Byte} (h : ¬ hdrMatch s = true) : verify s = .error .headerMismatch := by
  simp [verify, h]

/-- After a right header, a sequence too short fails the checksum (43_rx_verify_parse.md R150, R153). -/
theorem verify_of_short {s : List Byte} (hhdr : hdrMatch s = true) (hlen : s.length < respLen) :
    verify s = .error .checksumMismatch := by
  simp [verify, hhdr, hlen]

/-- After a right header, a whole response fails on a wrong checksum byte (43_rx_verify_parse.md R150). -/
theorem verify_of_wrong_sum {s : List Byte} (hhdr : hdrMatch s = true) (hlen : respLen ≤ s.length)
    (hsum : s[respLen - 1]? ≠ some (xorfold (s.take (respLen - 1)))) : verify s = .error .checksumMismatch := by
  simp [verify, hhdr, hlen.not_gt, hsum]

/-- A byte that is there is the one `parse` takes (43_rx_verify_parse.md R152). -/
theorem getElem?_eq_some_getD {s : List Byte} {i : Nat} (hi : i < s.length) : s[i]? = some (s.getD i 0) := by
  rw [List.getElem?_eq_getElem hi, List.getD_eq_getElem s 0 hi]

/-- Settles O12, clause by clause; a sequence shorter than the header cannot have it. -/
theorem verifyByClauses : Obligations.VerifyByClauses := by
  intro s
  refine ⟨fun hbad => ?_, fun hhdr hlen => ?_, fun hhdr hlen hsum => ?_, fun hhdr hsum => ?_⟩
  · refine verify_of_not_hdrMatch fun hhdr => ?_
    obtain ⟨hfour, -⟩ := hdrMatch_iff.1 hhdr
    exact hbad.elim hfour.not_gt (fun hne => hne (hdrMatch_iff_take.1 hhdr))
  · exact verify_of_short (hdrMatch_iff_take.2 hhdr) hlen
  · exact verify_of_wrong_sum (hdrMatch_iff_take.2 hhdr) hlen hsum
  · obtain ⟨hten, -⟩ := List.getElem?_eq_some_iff.1 hsum
    have hfield {i : Nat} (hi : i ≤ 9) : s[i]? = some (s.getD i 0) := getElem?_eq_some_getD (by omega)
    exact ⟨parse s, verify_eq_ok.2 ⟨hdrMatch_iff_take.2 hhdr, hten, hsum, rfl⟩, hfield (by omega), hfield (by omega),
      hfield (by omega), hfield (by omega), hfield (by omega), hfield (by omega)⟩

/-! What follows a response. -/

/-- The fields stand in the first eleven bytes (43_rx_verify_parse.md R152). -/
theorem parse_append {f : List Byte} (hlen : f.length = respLen) (t : List Byte) : parse (f ++ t) = parse f := by
  simp only [respLen] at hlen
  have hfield {i : Nat} (hi : i ≤ 9) : (f ++ t).getD i 0 = f.getD i 0 := List.getD_append f t 0 i (by omega)
  simp only [parse, hfield (i := 4) (by omega), hfield (i := 5) (by omega), hfield (i := 6) (by omega),
    hfield (i := 7) (by omega), hfield (i := 8) (by omega), hfield (i := 9) (by omega)]

/-- Bytes after a response take no part in its verification (43_rx_verify_parse.md R154). -/
theorem verify_append {f : List Byte} (hlen : f.length = respLen) (t : List Byte) : verify (f ++ t) = verify f := by
  have hhdr : hdrMatch (f ++ t) = hdrMatch f :=
    hdrMatch_congr (List.take_append_of_le_length (by simp only [respLen] at hlen; omega))
  have hbyte : (f ++ t)[respLen - 1]? = f[respLen - 1]? :=
    List.getElem?_append_left (by simp only [respLen] at hlen ⊢; omega)
  have hbody : (f ++ t).take (respLen - 1) = f.take (respLen - 1) := List.take_append_of_le_length (by omega)
  have hwhole : ¬ (f ++ t).length < respLen := by simp [hlen]
  simp only [verify, hhdr, hbyte, hbody, hwhole, hlen.not_lt, if_false, parse_append hlen]

/-- Settles O13: a sequence is its first eleven bytes and what follows them. -/
theorem verifyIgnoresTrailingBytes : Obligations.VerifyIgnoresTrailingBytes := by
  intro s hlen
  calc verify s = verify (s.take 11 ++ s.drop 11) := by rw [List.take_append_drop]
    _ = verify (s.take 11) := verify_append (List.length_take_of_le hlen) _

/-- Eleven bytes that verify are the response with the fields they parse to (43_rx_verify_parse.md R162, R167). -/
theorem eq_mkResponse_of_verify {f : List Byte} {p : ParsedResponse} (hlen : f.length = 11) (hok : verify f = .ok p) :
    f = mkResponse p := by
  obtain ⟨hhdr, -, hsum, rfl⟩ := verify_eq_ok.1 hok
  match f, hlen with
  | [m0, m1, m2, m3, l, b, e, st, c, k, x], _ =>
    obtain ⟨rfl, rfl, rfl, rfl⟩ : m0 = 0x57 ∧ m1 = 0x4B ∧ m2 = 0x4C ∧ m3 = 0x59 := by
      simpa using hdrMatch_iff_take.1 hhdr
    obtain rfl : x = xorfold [0x57, 0x4B, 0x4C, 0x59, l, b, e, st, c, k] := Option.some.inj hsum
    rfl

/-- Settles O11: both directions, and the bytes of `mkResponse` as they are defined. -/
theorem responseRoundTrip : Obligations.ResponseRoundTrip :=
  ⟨Machine.verify_mkResponse_append, fun _ => rfl, fun _ _ => eq_mkResponse_of_verify⟩

end Sys2Proof
end

section
/-! The operations of the RX unit (43_rx_verify_parse.md): each gives its next state, whole (O21 to O25), and so does a
response frame (O32). -/

namespace Sys2Proof.Machine

/-- Settles O21: the started unit replaces whatever was there. -/
theorem rxStartOpensAChunk : Obligations.RxStartOpensAChunk :=
  ⟨fun d => by simp [decode, decodePort], fun _ => rfl⟩

/-! A byte. -/

/-- `RX.BYTE` of an open chunk (43_rx_verify_parse.md R156). -/
theorem exec_rxByte_of_opened {s : State} (hopen : s.rx.phase = .opened) (d : Byte) :
    exec (.rxByte d) s = .next ((s.withRx (s.rx.accept s.params.rxChunk d)).reply .nothing) := by
  obtain ⟨hclosed, -⟩ | ⟨-, h⟩ := exec_rxByte_cases d s
  · simp [hopen] at hclosed
  · exact h

/-- Settles O23: the answer is all that changes. -/
theorem rxByteIgnoredWhenClosed : Obligations.RxByteIgnoredWhenClosed := by
  intro d s hclosed
  obtain ⟨-, h⟩ | ⟨hopen, -⟩ := exec_rxByte_cases d s
  · exact h
  · simp [hclosed] at hopen

/-- The header comparison is with the byte of the magic at the offset (00_scope.md R3, 42_rx_header_detect.md R141). -/
theorem beq_magicAt {i : Nat} (hi : i ≤ 3) (d : Byte) :
    (d == magicAt i) = decide ([0x57, 0x4B, 0x4C, (0x59 : Byte)][i]? = some d) := by
  have hmagic : [0x57, 0x4B, 0x4C, (0x59 : Byte)][i]? = some (magicAt i) := by interval_cases i <;> rfl
  rw [Bool.eq_iff_iff, beq_iff_eq, decide_eq_true_iff, hmagic, Option.some.injEq, eq_comm]

/-- The register of the byte's offset takes the byte, the others keep theirs (43_rx_verify_parse.md R156). -/
theorem RxUnit.accept_cap_read {rxChunk : Nat} {rx : RxUnit} (hroom : rx.cnt ≠ rxChunk) (d : Byte) {j : Nat} (h4 : 4 ≤ j)
    (h10 : j ≤ 10) : (rx.accept rxChunk d).cap.read j = if j = rx.cnt then some d else rx.cap.read j := by
  rw [RxUnit.accept_cap hroom]
  obtain rfl | hne := eq_or_ne j rx.cnt
  · rw [if_pos rfl, if_pos ⟨h4, h10⟩, Captures.read_write_same _ _ _ h4 h10]
  · rw [if_neg hne]
    split
    · exact Captures.read_write_other _ _ _ _ hne.symm
    · rfl

/-- All that a counted byte changes, its captures by name (43_rx_verify_parse.md R156). -/
theorem RxUnit.accept_of_room {rxChunk : Nat} {rx : RxUnit} (hroom : rx.cnt ≠ rxChunk) (d : Byte) :
    rx.accept rxChunk d =
      { rx with
        hdrOk := if rx.cnt ≤ 3 then rx.hdrOk && decide ([0x57, 0x4B, 0x4C, (0x59 : Byte)][rx.cnt]? = some d) else rx.hdrOk
        xor := if rx.cnt ≤ 9 then rx.xor ^^^ d else rx.xor
        cnt := rx.cnt + 1
        cap := (rx.accept rxChunk d).cap } := by
  have hhdr : (rx.accept rxChunk d).hdrOk =
      if rx.cnt ≤ 3 then rx.hdrOk && decide ([0x57, 0x4B, 0x4C, (0x59 : Byte)][rx.cnt]? = some d) else rx.hdrOk := by
    rw [RxUnit.accept_hdrOk hroom]
    split
    next h3 => rw [beq_magicAt h3]
    next => rfl
  rw [← hhdr, ← RxUnit.accept_cnt hroom d, ← show _ = if rx.cnt ≤ 9 then rx.xor ^^^ d else rx.xor from
    RxUnit.accept_xor hroom d, ← RxUnit.accept_phase rxChunk rx d, ← RxUnit.accept_result rxChunk rx d]

/-- Settles O22: a full chunk drops the byte, and otherwise the byte goes where its offset says. -/
theorem rxByteByOffset : Obligations.RxByteByOffset := by
  refine ⟨fun d => by simp [decode, decodePort], fun d s hopen => ⟨fun hfull => ?_, fun hroom => ?_⟩⟩
  · rw [exec_rxByte_of_opened hopen, RxUnit.accept_full hfull]
    rfl
  · refine ⟨(s.rx.accept s.params.rxChunk d).cap, ?_, fun j h4 h10 => RxUnit.accept_cap_read hroom d h4 h10⟩
    rw [exec_rxByte_of_opened hopen, RxUnit.accept_of_room hroom]
    rfl

/-! The verdict. -/

/-- Settles O25: the held result is the answer, which is all that changes. -/
theorem rxEndIgnoredWhenClosed : Obligations.RxEndIgnoredWhenClosed := by
  intro s hclosed
  obtain ⟨-, h⟩ | ⟨hopen, -⟩ := exec_rxEnd_cases s
  · exact h
  · simp [hclosed] at hopen

/-- `RX.END` of an open chunk judges it (43_rx_verify_parse.md R158). -/
theorem exec_rxEnd_of_opened {s : State} (hopen : s.rx.phase = .opened) : exec .rxEnd s = endChunk s := by
  obtain ⟨hclosed, -⟩ | ⟨-, h⟩ := exec_rxEnd_cases s
  · simp [hopen] at hclosed
  · exact h

/-- A verdict closes the chunk, is held, signalled and answered (43_rx_verify_parse.md R158). -/
theorem endChunk_of_verdict {s : State} {v : Verdict} (hv : s.rx.verdict = some v) :
    endChunk s = .next ((raiseVerdict v s).answering (.result (some v))) := by
  simp only [endChunk, hv]

theorem RxUnit.verdict_of_wrong_header {rx : RxUnit} (h : rx.cnt < 4 ∨ rx.hdrOk = false) :
    rx.verdict = some .headerMismatch := by
  simp only [RxUnit.verdict, if_pos h]

theorem RxUnit.verdict_of_short {rx : RxUnit} (h4 : 4 ≤ rx.cnt) (hhdr : rx.hdrOk = true) (hshort : rx.cnt < respLen) :
    rx.verdict = some .checksumMismatch := by
  simp [RxUnit.verdict, h4.not_gt, hhdr, hshort]

/-- A whole response with the right header is judged by its checksum byte (43_rx_verify_parse.md R158). -/
theorem RxUnit.verdict_of_whole {rx : RxUnit} {x : Byte} (hlen : respLen ≤ rx.cnt) (hhdr : rx.hdrOk = true)
    (hx : rx.cap.c10 = some x) : rx.verdict = some (if x = rx.xor then .ok else .checksumMismatch) := by
  have h4 : ¬ rx.cnt < 4 := by simp only [respLen] at hlen; omega
  have hread : rx.cap.read (respLen - 1) = some x := hx
  simp [RxUnit.verdict, h4, hhdr, hlen.not_gt, hread, ite_not]

/-- Settles O24: in each of the cases the verdict is the first one that applies. -/
theorem rxEndGivesTheVerdict : Obligations.RxEndGivesTheVerdict := by
  refine ⟨fun d => by simp [decode, decodePort], fun v s hopen hcase => ?_⟩
  have hv : s.rx.verdict = some v := by
    obtain ⟨hbad, rfl⟩ | ⟨h4, hhdr, hshort, rfl⟩ | ⟨hlen, hhdr, x, hx, ⟨hne, rfl⟩ | ⟨heq, rfl⟩⟩ := hcase
    · exact RxUnit.verdict_of_wrong_header hbad
    · exact RxUnit.verdict_of_short h4 hhdr hshort
    · rw [RxUnit.verdict_of_whole hlen hhdr hx, if_neg hne]
    · rw [RxUnit.verdict_of_whole hlen hhdr hx, if_pos heq]
  rw [exec_rxEnd_of_opened hopen, endChunk_of_verdict hv]
  rfl

/-! A response frame. -/

/-- What is read at the seven offsets is all that the capture registers hold (10_state.md R33). -/
theorem Captures.eq_of_read_eq {c c' : Captures} (h : ∀ i, 4 ≤ i → i ≤ 10 → c.read i = c'.read i) : c = c' := by
  have h4 : c.c4 = c'.c4 := h 4 (by omega) (by omega)
  have h5 : c.c5 = c'.c5 := h 5 (by omega) (by omega)
  have h6 : c.c6 = c'.c6 := h 6 (by omega) (by omega)
  have h7 : c.c7 = c'.c7 := h 7 (by omega) (by omega)
  have h8 : c.c8 = c'.c8 := h 8 (by omega) (by omega)
  have h9 : c.c9 = c'.c9 := h 9 (by omega) (by omega)
  have h10 : c.c10 = c'.c10 := h 10 (by omega) (by omega)
  cases c
  cases c'
  simp_all

/-- The bytes of an open chunk determine the RX registers (10_state.md R37). -/
theorem RxHistory.eq_of_opened {rxChunk : Nat} {s : List Byte} {rx rx' : RxUnit} (h : RxHistory rxChunk s rx)
    (h' : RxHistory rxChunk s rx') (hopen : rx.phase = .opened) (hopen' : rx'.phase = .opened) : rx = rx' := by
  obtain ⟨hcnt, hhdr, hxor, hcap, hnone, -⟩ := h
  obtain ⟨hcnt', hhdr', hxor', hcap', hnone', -⟩ := h'
  have hcaps : rx.cap = rx'.cap :=
    Captures.eq_of_read_eq fun i h4 h10 => (hcap i h4 h10).trans (hcap' i h4 h10).symm
  have hhdrs : rx.hdrOk = rx'.hdrOk := Bool.eq_iff_iff.2 (hhdr.trans hhdr'.symm)
  have hresult : rx.result = rx'.result := (hnone hopen).trans (hnone' hopen').symm
  cases rx
  cases rx'
  simp_all

/-- The RX registers when the eleven bytes of a response have been taken and not yet judged. -/
def RxUnit.responseTaken (l b e st c k x : Byte) : RxUnit :=
  { phase := .opened, cnt := 11, hdrOk := true, xor := xorfold [0x57, 0x4B, 0x4C, 0x59, l, b, e, st, c, k],
    cap := { c4 := some l, c5 := some b, c6 := some e, c7 := some st, c8 := some c, c9 := some k, c10 := some x },
    result := none }

theorem RxUnit.responseTaken_history {rxChunk : Nat} (hlen : 11 ≤ rxChunk) (l b e st c k x : Byte) :
    RxHistory rxChunk (responseBytes l b e st c k x) (RxUnit.responseTaken l b e st c k x) := by
  refine ⟨(min_eq_left hlen).symm, iff_of_true rfl ?_, rfl, fun i h4 h10 => ?_, fun _ => rfl, nofun⟩
  · obtain ⟨-, hheader⟩ := hdrMatch_iff.1 (show hdrMatch (responseBytes l b e st c k x) = true from rfl)
    exact hheader
  · interval_cases i <;> rfl

/-- Taking the bytes of a response leaves these registers (43_rx_verify_parse.md R155, R156). -/
theorem RxUnit.foldl_accept_response {rxChunk : Nat} (hlen : 11 ≤ rxChunk) (l b e st c k x : Byte) :
    (responseBytes l b e st c k x).foldl (RxUnit.accept rxChunk) RxUnit.started =
      RxUnit.responseTaken l b e st c k x :=
  ((RxHistory.started rxChunk).foldl_accept rfl hlen _).eq_of_opened (RxUnit.responseTaken_history hlen l b e st c k x)
    (RxUnit.foldl_accept_phase _ _ _) rfl

/-- A response received is judged by its checksum byte (43_rx_verify_parse.md R158). -/
theorem receiveChunk_response {s : State} (hlen : 11 ≤ s.params.rxChunk) (l b e st c k x : Byte) {v : Verdict}
    (hv : v = if x = xorfold [0x57, 0x4B, 0x4C, 0x59, l, b, e, st, c, k] then .ok else .checksumMismatch) :
    receiveChunk (responseBytes l b e st c k x) s =
      .next ((raiseVerdict v (s.withRx (RxUnit.responseTaken l b e st c k x))).answering (.result (some v))) := by
  have hverdict : (RxUnit.responseTaken l b e st c k x).verdict = some v := by
    rw [hv]
    exact RxUnit.verdict_of_whole le_rfl rfl rfl
  rw [receiveChunk, RxUnit.foldl_accept_response hlen, endChunk_of_verdict (by exact hverdict)]

/-- Settles O32: the three response kinds are received alike, the echo of two of them fixed. -/
theorem responseFrameIsReceived : Obligations.ResponseFrameIsReceived := by
  intro l b e st c k x v s hlen hv
  refine ⟨?_, ?_, ?_⟩
  · rintro rfl
    exact (exec_rspUnlock l b st c k x s).trans (receiveChunk_response hlen l b _ st c k x hv)
  · rintro rfl
    exact (exec_rspStatus l b st c k x s).trans (receiveChunk_response hlen l b _ st c k x hv)
  · exact (exec_rspOther l b e st c k x s).trans (receiveChunk_response hlen l b e st c k x hv)

end Sys2Proof.Machine
end

section
/-! The two layers agree on the receive side (O44). While a chunk is open the RX registers are what the bytes given so far
make them (10_state.md R37); `RX.BYTE` gives one more, no operation outside the RX group touches them, and `RX.END` judges
them as `verify` does. -/

namespace Sys2Proof.Machine

/-- A chunk is open and has been given `bytes`, and a whole response fits it (10_state.md R37, 00_scope.md R5). -/
def Receiving (bytes : List Byte) (s : State) : Prop :=
  RxHistory s.params.rxChunk bytes s.rx ∧ s.rx.phase = .opened ∧ respLen ≤ s.params.rxChunk

/-- An operation that R160 allows between `RX.START` and `RX.END` (43_rx_verify_parse.md R160). -/
def InterleavesRx (i : Instr) : Prop := (∃ d, i = .rxByte d) ∨ (isRx i = false ∧ i ≠ .reset)

/-- Outside the RX group only `RESET` writes the RX unit (10_state.md R20). -/
theorem exec_keeps_rx {i : Instr} {s t : State} (hi : isRx i = false) (hreset : i ≠ .reset) (h : exec i s = .next t) :
    t.rx = s.rx := by
  obtain htx | hrx | hident | hread | hr := isTx_or_isRx_or_isIdent_or_isRead_or_reset i
  · obtain ⟨-, hkeep⟩ := exec_outside_tx htx h
    exact hkeep
  · simp [hi] at hrx
  · obtain ⟨-, hkeep⟩ := exec_outside_ident hident h
    exact hkeep
  · obtain ⟨-, -, hkeep⟩ := exec_outside_read hread h
    exact hkeep
  · exact absurd hr hreset

theorem rxBytes_cons_of_not_rx {i : Instr} (hi : isRx i = false) (is : List Instr) : rxBytes (i :: is) = rxBytes is := by
  cases i with
  | rxByte d => cases hi
  | _ => rfl

/-- `RX.BYTE` gives the open chunk one more byte, dropped or not (43_rx_verify_parse.md R156). -/
theorem Receiving.rxByte {bytes : List Byte} {s t : State} {d : Byte} (hs : Receiving bytes s)
    (h : exec (.rxByte d) s = .next t) : Receiving (bytes ++ [d]) t := by
  obtain ⟨hhist, hopen, hlen⟩ := hs
  cases (exec_rxByte_of_opened hopen d).symm.trans h
  exact ⟨hhist.accept hopen hlen d, by simpa using hopen, hlen⟩

/-- An operation outside the RX group leaves the open chunk as it is (20_memory.md R61). -/
theorem Receiving.other {bytes : List Byte} {i : Instr} {s t : State} (hs : Receiving bytes s) (hi : isRx i = false)
    (hreset : i ≠ .reset) (h : exec i s = .next t) : Receiving bytes t := by
  obtain ⟨-, hparams, -⟩ := exec_environment h
  rwa [Receiving, hparams, exec_keeps_rx hi hreset h]

/-- `RX.BYTE`s among other operations give the open chunk their bytes in order. -/
theorem Receiving.runOps {is : List Instr} {bytes : List Byte} {s : State} (hs : Receiving bytes s)
    (his : ∀ i ∈ is, InterleavesRx i) :
    ∃ o t, runOps is s = some (o, t) ∧ Receiving (bytes ++ rxBytes is) t := by
  induction is generalizing bytes s with
  | nil => exact ⟨[], s, rfl, by rwa [rxBytes, List.append_nil]⟩
  | cons i is ih =>
    rw [List.forall_mem_cons] at his
    obtain ⟨hi, his⟩ := his
    have ⟨hhist, _, _⟩ := hs
    obtain ⟨m, hm⟩ := exec_completes ⟨bytes, hhist⟩ i
    obtain ⟨d, rfl⟩ | ⟨hrx, hreset⟩ := hi
    · obtain ⟨o, t, hrun, ht⟩ := ih (hs.rxByte hm) his
      exact ⟨_, t, runOps_cons.2 ⟨m, o, hm, hrun, rfl⟩, by rwa [rxBytes, List.append_cons]⟩
    · obtain ⟨o, t, hrun, ht⟩ := ih (hs.other hrx hreset hm) his
      exact ⟨_, t, runOps_cons.2 ⟨m, o, hm, hrun, rfl⟩, by rwa [rxBytes_cons_of_not_rx hrx]⟩

/-- `RX.END` judges the bytes given as `verify` does (43_rx_verify_parse.md R158, R160). -/
theorem Receiving.rxEnd {bytes : List Byte} {s : State} (hs : Receiving bytes s) :
    ∃ t, exec .rxEnd s = .next t ∧ Judged bytes t := by
  obtain ⟨hhist, hopen, hlen⟩ := hs
  exact ⟨_, (exec_rxEnd_of_opened hopen).trans (endChunk_of_verdict (hhist.verdict_eq hlen)), rfl, rfl, rfl, rfl,
    hhist.closed.parsed_eq rfl⟩

/-- Settles O44: the started chunk has no byte, takes those of the list in order, and is judged. -/
theorem rxAgreesWithVerify : Obligations.RxAgreesWithVerify := by
  intro is s ⟨_, _, _, hlen⟩ his
  have hstart : exec .rxStart s = .next ((s.withRx RxUnit.started).reply .nothing) := rfl
  have hstarted : Receiving [] ((s.withRx RxUnit.started).reply .nothing) := ⟨RxHistory.started _, rfl, hlen⟩
  obtain ⟨o, m, hrun, hm⟩ := hstarted.runOps his
  obtain ⟨t, hend, hanswer, hdone, -, -, hparsed⟩ := hm.rxEnd
  exact ⟨_, t, runOps_append (runOps_cons.2 ⟨_, o, hstart, hrun, rfl⟩) (runOps_singleton hend), hanswer, hdone, hparsed⟩

end Sys2Proof.Machine
end

section
/-! The classifier (44_response_classify.md): its byte tests (O14), `classify` by its first failing test (O15), and `RD.CLASS`,
which returns the tests' values (O28). -/

namespace Sys2Proof

/-! The byte tests: the value of each as a choice on the byte, and which bytes have the value. -/

theorem cmdKind_eq_ite (e : Byte) :
    cmdKind e = if e = 0x82 then .unlock else if e = 0x83 then .status else .other := by
  simp only [cmdKind, CommandKind.op, beq_iff_eq]

theorem cmdKind_eq_other {e : Byte} : cmdKind e = .other ↔ e ≠ 0x82 ∧ e ≠ 0x83 := by
  rw [cmdKind_eq_ite]
  split_ifs <;> simp_all

theorem statusOk_iff {st : Byte} : statusOk st = true ↔ st = 0x00 := beq_iff_eq

theorem lockClass_eq_ite (k : Byte) :
    lockClass k = if k = 0x00 then .unlocked else if k = 0x01 then .locked else .invalid := by
  simp only [lockClass, lockUnlockedByte, lockLockedByte, beq_iff_eq]

theorem lockClass_eq_unlocked {k : Byte} : lockClass k = .unlocked ↔ k = 0x00 := by
  rw [lockClass_eq_ite]
  split_ifs <;> simp_all

theorem lockClass_eq_locked {k : Byte} : lockClass k = .locked ↔ k = 0x01 := by
  rw [lockClass_eq_ite]
  split_ifs <;> simp_all

theorem lockClass_eq_invalid {k : Byte} : lockClass k = .invalid ↔ k ≠ 0x00 ∧ k ≠ 0x01 := by
  rw [lockClass_eq_ite]
  split_ifs <;> simp_all

theorem addrMatch_iff {p : ParsedResponse} {b c : Byte} : addrMatch p b c = true ↔ p.board = b ∧ p.chan = c := by
  rw [addrMatch, Bool.and_eq_true, beq_iff_eq, beq_iff_eq]

/-- Settles O14: each value of a test stands for the bytes the rule names. -/
theorem classifierByteTests : Obligations.ClassifierByteTests :=
  ⟨fun _ => ⟨cmdKind_eq_unlock, cmdKind_eq_status, cmdKind_eq_other⟩, fun _ => statusOk_iff,
    fun _ => ⟨lockClass_eq_unlocked, lockClass_eq_locked, lockClass_eq_invalid⟩, fun _ _ _ => addrMatch_iff⟩

/-! `classify`. -/

/-- The echo test compares the echo with the expected command's byte (44_response_classify.md R180, R185). -/
theorem cmdKind_eq_echo {e : Byte} {k : CommandKind} : cmdKind e = k.echo ↔ e = k.op := by
  cases k with
  | unlock => exact cmdKind_eq_unlock
  | status => exact cmdKind_eq_status

/-- The host's reading of the four values, test by test (44_response_classify.md R186). -/
theorem classifyFlags_eq (f : ClassFlags) (k : CommandKind) :
    classifyFlags f k =
      if f.addrMatch = false then .addressMismatch
      else if f.cmdKind ≠ k.echo then .commandMismatch
      else if f.statusOk = false then .statusError
      else if f.lockClass = .invalid then .unknownLockStatus
      else .accept f.lockClass := by
  simp only [classifyFlags, Bool.not_eq_true']

/-- The host reads from the values of `RD.CLASS` what `classify` computes (44_response_classify.md R186). -/
theorem classifyFlags_classFlags (p : ParsedResponse) (b c : Byte) (k : CommandKind) :
    classifyFlags (classFlags p b c) k = classify p b c k := rfl

/-- `classify` as a choice on the response's bytes (44_response_classify.md R185). -/
theorem classify_eq_ite (p : ParsedResponse) (b c : Byte) (k : CommandKind) :
    classify p b c k =
      if ¬ (p.board = b ∧ p.chan = c) then .addressMismatch
      else if p.cmd ≠ k.op then .commandMismatch
      else if p.status ≠ 0x00 then .statusError
      else if p.lock = 0x00 then .accept .unlocked
      else if p.lock = 0x01 then .accept .locked
      else .unknownLockStatus := by
  have hlock : (if lockClass p.lock = .invalid then Classification.unknownLockStatus else .accept (lockClass p.lock)) =
      if p.lock = 0x00 then .accept .unlocked else if p.lock = 0x01 then .accept .locked else .unknownLockStatus := by
    rw [lockClass_eq_ite]
    split_ifs <;> simp_all
  simp only [classify, hlock, Bool.not_eq_true', ← Bool.not_eq_true, addrMatch_iff, ne_eq, cmdKind_eq_echo, statusOk_iff]

/-- Settles O15, test by test in the rule's order: one that fails fixes the outcome, whatever comes after it. -/
theorem classifyNamesFirstFailure : Obligations.ClassifyNamesFirstFailure := by
  intro p b c k
  rw [classifyFlags_classFlags, classify_eq_ite]
  by_cases haddr : p.board = b ∧ p.chan = c
  case neg => simp_all
  by_cases hcmd : p.cmd = k.op
  case neg => simp_all
  by_cases hstatus : p.status = 0x00
  case neg => simp_all
  by_cases hunlocked : p.lock = 0x00
  case pos => simp_all [eq_comm (a := LockClass.unlocked)]
  by_cases hlocked : p.lock = 0x01
  case pos => simp_all [eq_comm (a := LockClass.locked)]
  simp_all

end Sys2Proof

namespace Sys2Proof.Machine

/-- The four values on the response's bytes (44_response_classify.md R180 to R183, R186). -/
theorem classFlags_eq (p : ParsedResponse) (b c : Byte) :
    classFlags p b c =
      { addrMatch := decide (p.board = b ∧ p.chan = c)
        statusOk := decide (p.status = 0x00)
        cmdKind := if p.cmd = 0x82 then .unlock else if p.cmd = 0x83 then .status else .other
        lockClass := if p.lock = 0x00 then .unlocked else if p.lock = 0x01 then .locked else .invalid } := by
  have haddr : addrMatch p b c = decide (p.board = b ∧ p.chan = c) := by
    rw [Bool.eq_iff_iff, addrMatch_iff, decide_eq_true_iff]
  have hstatus : statusOk p.status = decide (p.status = 0x00) := by
    rw [Bool.eq_iff_iff, statusOk_iff, decide_eq_true_iff]
  rw [classFlags, haddr, hstatus, cmdKind_eq_ite, lockClass_eq_ite]

/-- The packed form holds each value at its own bit position (10_state.md R39, 44_response_classify.md R186). -/
theorem packedClass_eq_shifts (f : ClassFlags) :
    packedClass f = bit f.addrMatch + bit f.statusOk <<< 1 + echoCode f.cmdKind <<< 2 + lockCode f.lockClass <<< 4 := by
  simp only [packedClass, Nat.shiftLeft_eq]
  omega

/-- `RD.CLASS` after an `Ok`, with the identity set, classifies the parsed response (44_response_classify.md R186). -/
theorem exec_rdClass_of_ok {s : State} {p : ParsedResponse} {b c : Byte} (hok : s.rx.result = some .ok)
    (hid : HasIdentity s b c) (hp : s.rx.parsed = some p) :
    exec .rdClass s = .next (s.reply (.classFlags (classFlags p b c))) := by
  simp [exec, execRdClass, Identity.pair_eq_some.2 hid, hok, hp]

/-- Without an `Ok` or an identity register `RD.CLASS` is refused (44_response_classify.md R187). -/
theorem exec_rdClass_refused {s : State} (h : s.rx.result ≠ some .ok ∨ s.ident.board = none ∨ s.ident.chan = none) :
    exec .rdClass s = .next s.refuse := by
  obtain hrefuse | ⟨b, c, hid, hok, -⟩ := exec_rdClass_cases s
  · exact hrefuse
  · obtain hbad | hunset := h
    · exact absurd hok hbad
    · simp [Identity.pair_eq_none.2 hunset] at hid

/-- Settles O28: the six captures are the parsed response, and its four values are the answer. -/
theorem classReadOnlyAfterOk : Obligations.ClassReadOnlyAfterOk := by
  refine ⟨fun d => by simp [decode, decodePort], packedClass_eq_shifts, classifyFlags_eq, fun s => ⟨?_, exec_rdClass_refused⟩⟩
  intro p b c hok hid h4 h5 h6 h7 h8 h9
  have hp : s.rx.parsed = some p := by
    rw [RxUnit.parsed, if_pos hok]
    exact Captures.fields_eq_some.2 ⟨h4, h5, h6, h7, h8, h9⟩
  rw [exec_rdClass_of_ok hok hid hp, classFlags_eq]
  rfl

end Sys2Proof.Machine
end

section
/-! The identity, read and reset operations (45_system_ops.md): each gives its next state, whole (O16, O26, O27, O29). -/

namespace Sys2Proof.Machine

/-! Writing the identity. -/

/-- Settles O16: the new identity keeps the other register, and only the answer changes besides. -/
theorem setIdentityWritesOneRegister : Obligations.SetIdentityWritesOneRegister := by
  intro d s
  have hboard : decode (.port (0x1#4 ++ d)) = .ok (.setBoard d) := by simp [decode, decodePort]
  have hchan : decode (.port (0x2#4 ++ d)) = .ok (.setChan d) := by simp [decode, decodePort]
  exact ⟨hboard, hchan, rfl, rfl⟩

/-! The views of the units. -/

/-- `rx_open` is the phase `Open` (10_state.md R38). -/
theorem RxUnit.isOpen_eq_decide (rx : RxUnit) : rx.isOpen = decide (rx.phase = .opened) := by
  rw [Bool.eq_iff_iff, RxUnit.isOpen, beq_iff_eq, decide_eq_true_iff]

/-- `hdr_det` needs four counted bytes and the running flag (10_state.md R36). -/
theorem RxUnit.hdrDet_eq_decide (rx : RxUnit) : rx.hdrDet = decide (4 ≤ rx.cnt ∧ rx.hdrOk = true) := by
  rw [RxUnit.hdrDet, Bool.decide_and, Bool.decide_eq_true]

/-- The record of `RD.STAT` on the registers (10_state.md R36, R38, 45_system_ops.md R194). -/
theorem statRecord_eq (tx : TxUnit) (rx : RxUnit) :
    statRecord tx rx =
      { txBusy := tx.busy, txIdx := tx.idx, rxOpen := decide (rx.phase = .opened),
        hdrDet := decide (4 ≤ rx.cnt ∧ rx.hdrOk = true), rxCnt := rx.cnt } := by
  rw [statRecord, RxUnit.isOpen_eq_decide, RxUnit.hdrDet_eq_decide]

/-- The packed form holds each value at its own bit position (10_state.md R39). -/
theorem StatRecord.packed_eq_shifts (r : StatRecord) :
    r.packed = bit r.txBusy + r.txIdx.val <<< 1 + bit r.rxOpen <<< 5 + bit r.hdrDet <<< 6 + r.rxCnt <<< 7 := by
  simp only [StatRecord.packed, Nat.shiftLeft_eq]
  omega

/-- `RD.STAT` answers the record as the registers stand (45_system_ops.md R194). -/
theorem exec_rdStat (s : State) : exec .rdStat s = .next (s.reply (.stat (statRecord s.tx s.rx))) := rfl

/-- Settles O26: the answer is what the registers hold, which is all that changes. -/
theorem resultAndStatRead : Obligations.ResultAndStatRead := by
  refine ⟨fun d => ⟨?_, ?_⟩, ⟨rfl, rfl, rfl, rfl⟩, StatRecord.packed_eq_shifts, fun s => ⟨rfl, ?_⟩⟩
  · simp [decode, decodePort]
  · simp [decode, decodePort]
  · rw [exec_rdStat, statRecord_eq]
    rfl

/-! Reading a field. -/

/-- Selectors up to 5 name the offsets from 4 on, the others none (30_encoding.md R87). -/
theorem fieldOffset_eq_some {f : Byte} {i : Nat} : fieldOffset f = some i ↔ f.toNat ≤ 5 ∧ 4 + f.toNat = i := by
  rw [fieldOffset, Option.ite_none_right_eq_some, Option.some.injEq]

/-- The field captures in the order of their offsets (10_state.md R33, 45_system_ops.md R193). -/
theorem Captures.getElem?_fieldRegisters (c : Captures) {i : Nat} (hi : i ≤ 5) :
    [c.c4, c.c5, c.c6, c.c7, c.c8, c.c9][i]? = some (c.read (4 + i)) := by
  interval_cases i <;> rfl

/-- Without an `Ok`, or with a selector that names no field, `RD.FIELD` is refused (45_system_ops.md R193,
30_encoding.md R87). -/
theorem exec_rdField_refused {f : Byte} {s : State} (h : s.rx.result ≠ some .ok ∨ 5 < f.toNat) :
    exec (.rdField f) s = .next s.refuse := by
  obtain hrefuse | ⟨i, hf, hok, -⟩ := exec_rdField_cases f s
  · exact hrefuse
  · obtain hbad | hbig := h
    · exact absurd hok hbad
    · obtain ⟨hle, -⟩ := fieldOffset_eq_some.1 hf
      exact absurd hle hbig.not_ge

/-- Settles O27: the selector names the capture register that is read. -/
theorem fieldReadOnlyAfterOk : Obligations.FieldReadOnlyAfterOk := by
  refine fun f s => ⟨by simp [decode, decodePort], fun b hok hle hb => ?_, exec_rdField_refused⟩
  have hread : s.rx.cap.read (4 + f.toNat) = some b :=
    Option.some.inj ((s.rx.cap.getElem?_fieldRegisters hle).symm.trans hb)
  exact exec_rdField_of_ok (fieldOffset_eq_some.2 ⟨hle, rfl⟩) hok hread

/-! Reset. -/

/-- Settles O29: the block's reset values replace its registers, whatever they were. -/
theorem resetWritesTheBlock : Obligations.ResetWritesTheBlock :=
  ⟨fun d => by simp [decode, decodePort], fun _ => rfl⟩

end Sys2Proof.Machine
end

section
/-! An event's handler in one step: it always comes to its end (O59), so that no step stops in a good state (O39); and the
identity calls (O50). -/

namespace Sys2Proof.Machine

/-- The state an event is handled in: the event is taken, `rest` is what comes after it, and the outputs of the step before
are gone (log 1). -/
def State.taken (s : State) (rest : List Input) : State := { s.quiet with inbox := rest }

@[simp] theorem State.taken_ident (s : State) (rest : List Input) : (s.taken rest).ident = s.ident := rfl
@[simp] theorem State.taken_tx (s : State) (rest : List Input) : (s.taken rest).tx = s.tx := rfl
@[simp] theorem State.taken_rx (s : State) (rest : List Input) : (s.taken rest).rx = s.rx := rfl
@[simp] theorem State.taken_ctl (s : State) (rest : List Input) : (s.taken rest).ctl = s.ctl := rfl
@[simp] theorem State.taken_params (s : State) (rest : List Input) : (s.taken rest).params = s.params := rfl
@[simp] theorem State.taken_answer (s : State) (rest : List Input) : (s.taken rest).answer = .nothing := rfl
@[simp] theorem State.taken_rxDone (s : State) (rest : List Input) : (s.taken rest).rxDone = none := rfl
@[simp] theorem State.taken_actions (s : State) (rest : List Input) : (s.taken rest).actions = [] := rfl
@[simp] theorem State.taken_inbox (s : State) (rest : List Input) : (s.taken rest).inbox = rest := rfl
@[simp] theorem State.taken_replies (s : State) (rest : List Input) : (s.taken rest).replies = s.replies := rfl

/-- An event at the head of the inbox is handled whole, in one step (46_host_link_controller.md R202). -/
theorem step_of_event {s : State} {e : Event} {rest : List Input} (h : Handles s e rest) :
    step s = handleEvent e (s.taken rest) := by
  simp only [step, takeInput, show s.inbox = .event e :: rest from h, State.taken]

/-- A read event's chunk always gets a verdict, and the controller handles that verdict
(46_host_link_controller.md R211, R215). -/
theorem onData_handles_verdict (bytes : List Byte) (s : State) :
    ∃ t v, receiveChunk (bytes.take s.params.rxChunk) s = .next t ∧ t.rxDone = some v ∧
      onData bytes s = .next (onRxDone v (t.answering .nothing)) := by
  obtain ⟨t, ht⟩ := receiveChunk_completes (bytes.take s.params.rxChunk) s
  obtain ⟨v, hv⟩ : ∃ v, t.rxDone = some v := by
    obtain ⟨-, h'⟩ | ⟨v, -, h'⟩ := endChunk_cases (s.withRx _) <;> cases h'.symm.trans ht
    exact ⟨v, rfl⟩
  exact ⟨t, v, ht, hv, by simp only [onData, ht, hv]⟩

/-- What a handler may not touch: the inputs still to come and the answer of an operation (46_host_link_controller.md
R202). -/
def KeepsInputs (s t : State) : Prop := t.inbox = s.inbox ∧ t.replies = s.replies ∧ t.answer = s.answer

theorem KeepsInputs.of_handlerFrame {s t : State} (h : t.handlerFrame = s.handlerFrame) : KeepsInputs s t := by
  obtain ⟨-, -, -, hanswer, -, hinbox, hreplies⟩ := State.handlerFrame_eq_iff.1 h
  exact ⟨hinbox, hreplies, hanswer⟩

theorem onData_keepsInputs (bytes : List Byte) {s : State} (hanswer : s.answer = .nothing) :
    ∃ h, onData bytes s = .next h ∧ KeepsInputs s h.1 := by
  obtain ⟨t, v, ht, -, hdata⟩ := onData_handles_verdict bytes s
  obtain ⟨-, -, -, hinbox, hreplies⟩ := receiveChunk_environment ht
  obtain ⟨hinbox', hreplies', hanswer'⟩ := KeepsInputs.of_handlerFrame (onRxDone_handlerFrame v (t.answering .nothing))
  exact ⟨_, hdata, hinbox'.trans hinbox, hreplies'.trans hreplies, hanswer'.trans hanswer.symm⟩

/-- Every handler gets to its first transport call or to its end, in every state. -/
theorem handle_completes (e : Event) {s : State} (hanswer : s.answer = .nothing) :
    ∃ h, handle e s = .next h ∧ KeepsInputs s h.1 := by
  cases e with
  | dataAvailable bytes => exact onData_keepsInputs bytes hanswer
  | setBoardCall d => exact ⟨_, rfl, rfl, rfl, rfl⟩
  | setChannelCall d => exact ⟨_, rfl, rfl, rfl, rfl⟩
  | unlockCall => exact ⟨_, rfl, .of_handlerFrame (onUnlock_handlerFrame s)⟩
  | pollCall => exact ⟨_, rfl, .of_handlerFrame (onPoll_handlerFrame s)⟩
  | reconnectElapsed => exact ⟨_, rfl, .of_handlerFrame (onReconnectElapsed_handlerFrame s)⟩
  | pollElapsed => exact ⟨_, rfl, .of_handlerFrame (onPollElapsed_handlerFrame s)⟩
  | transportError => exact ⟨_, rfl, .of_handlerFrame (onTransportError_handlerFrame s)⟩
  | responseOverdue => exact ⟨_, rfl, .of_handlerFrame (onResponseOverdue_handlerFrame s)⟩

/-- The step that handles an event runs the event's handler on the transport's answers as they stand. -/
theorem step_of_handle {s : State} {e : Event} {rest : List Input} {g : Handling} (h : Handles s e rest)
    (hg : handle e (s.taken rest) = .next g) : step s = .next (drive s.replies g) := by
  obtain ⟨g', hg', -, hreplies, -⟩ := handle_completes e (s.taken_answer rest)
  cases hg.symm.trans hg'
  rw [step_of_event h, handleEvent, hg]
  exact congrArg (fun rs => Host.Outcome.next (drive rs g)) hreplies

/-- Running a handler to its end touches neither the inputs behind its event nor the answer of an operation. -/
theorem drive_inbox_answer (rs : List TransportReply) (h : Handling) :
    (drive rs h).inbox = h.1.inbox ∧ (drive rs h).answer = h.1.answer := by
  obtain ⟨-, -, -, hanswer, -, hinbox, -⟩ := State.handlerFrame_eq_iff.1 (drive_handlerFrame rs h)
  exact ⟨hinbox, hanswer⟩

/-- Settles O59: every handler completes, and running it on the answers takes them from the front. -/
theorem handlersRunToCompletion : Obligations.HandlersRunToCompletion := by
  intro s e rest h
  obtain ⟨g, hg, hinbox, -, hanswer⟩ := handle_completes e (s.taken_answer rest)
  have hstep := step_of_handle h hg
  obtain ⟨hinbox', hanswer'⟩ := drive_inbox_answer s.replies g
  exact ⟨_, hstep, hinbox'.trans hinbox, parametersAreFixed _ _ hstep, hanswer'.trans hanswer,
    drive_replies_suffix _ _⟩

/-- Settles O50: the handler is the register write. -/
theorem identityCallsWriteTheRegisters : Obligations.IdentityCallsWriteTheRegisters :=
  fun _ _ _ => ⟨fun h => (step_of_handle h rfl).trans (by rw [drive_ends]; rfl),
    fun h => (step_of_handle h rfl).trans (by rw [drive_ends]; rfl)⟩

/-- The RX invariant is all that a request needs to complete. -/
theorem runRequest_completes {s : State} (hrx : RxInv s.params.rxChunk s.rx) (r : Request) :
    ∃ t, runRequest r s = .next t := by
  unfold runRequest
  split
  next i _ => exact exec_completes hrx i
  next =>
    cases r with
    | port w => exact ⟨_, rfl⟩
    | sent bytes => exact ⟨_, rfl⟩
    | received bytes => exact receiveChunk_completes bytes s

/-- No step stops in a good state. -/
theorem step_completes {s : State} (hs : GoodState s) : ∃ t, step s = .next t := by
  obtain ⟨-, h⟩ | ⟨r, rest, -, h⟩ | ⟨e, rest, hinbox, -⟩ := step_cases s
  · exact ⟨_, h⟩
  · obtain ⟨-, hrx, -, -⟩ := hs
    obtain ⟨t, ht⟩ := runRequest_completes (s := { s.quiet with inbox := rest }) hrx r
    exact ⟨t, h.trans ht⟩
  · obtain ⟨t, ht, -⟩ := handlersRunToCompletion s e rest hinbox
    exact ⟨t, ht⟩

/-- A run's first step, where it goes on. -/
theorem run_succ_of_step {M : Host.Core} {s t : M.State} (h : M.step s = .next t) (n : Nat) :
    M.run (n + 1) s = M.run n t := by
  simp only [Host.Core.run, h]

/-- Settles O39, by induction on the number of steps: a good state steps, to a good state. -/
theorem goodStatesNeverStop : Obligations.GoodStatesNeverStop := by
  intro s n hs
  induction n generalizing s with
  | zero => exact ⟨s, rfl⟩
  | succ n ih =>
    obtain ⟨t, ht⟩ := step_completes hs
    obtain ⟨u, hu⟩ := ih t (stepKeepsGoodStates s t hs ht)
    exact ⟨u, (run_succ_of_step (M := Sys2Proof.core) ht n).trans hu⟩

end Sys2Proof.Machine
end

section
/-! What a handler does on the first answers of the transport: a send, an opening and a hard reconnect, each with the answers
that end it (46_host_link_controller.md R210, R226, R227). -/

namespace Sys2Proof.Machine

/-- A handler's outcome: the TX unit, the controller and the answers left are as given, the actions are added, nothing else
has changed. -/
def State.handled (s : State) (tx : TxUnit) (c : Controller) (acts : List Action) (rs : List TransportReply) : State :=
  { s with tx := tx, ctl := c, actions := s.actions ++ acts, replies := rs }

/-- An event's handler with that outcome is a step with that outcome. -/
theorem State.handled_taken (s : State) (rest : List Input) (tx : TxUnit) (c : Controller) (acts : List Action)
    (rs : List TransportReply) :
    (s.taken rest).handled tx c acts rs =
      { s with tx := tx, ctl := c, actions := acts, answer := .nothing, rxDone := none, inbox := rest, replies := rs } :=
  rfl

/-- What closing the port does to the outside, by whether it is open (46_host_link_controller.md R226). -/
def portClosing (portOpen : Bool) : List Action := if portOpen then [.closedPort] else []

@[simp] theorem portClosing_true : portClosing true = [.closedPort] := rfl

@[simp] theorem portClosing_false : portClosing false = [] := rfl

@[simp] theorem ite_closedPort (portOpen : Bool) :
    (if portOpen then [Action.closedPort] else []) = portClosing portOpen := rfl

/-! What a handler did before counts with the outcome's actions or is overwritten. -/

section
variable (s : State) (tx : TxUnit) (c : Controller) (acts : List Action) (rs : List TransportReply)

@[simp] theorem State.handled_emit (a : Action) : (s.emit a).handled tx c acts rs = s.handled tx c (a :: acts) rs := by
  simp [State.handled, State.emit]

@[simp] theorem State.handled_withTx (x : TxUnit) : (s.withTx x).handled tx c acts rs = s.handled tx c acts rs := rfl

@[simp] theorem State.handled_withCtl (d : Controller) : (s.withCtl d).handled tx c acts rs = s.handled tx c acts rs := rfl

@[simp] theorem State.handled_setLink (l : LinkState) : (s.setLink l).handled tx c acts rs = s.handled tx c acts rs := rfl

@[simp] theorem State.handled_setRetry (b : Bool) : (s.setRetry b).handled tx c acts rs = s.handled tx c acts rs := rfl

@[simp] theorem State.handled_closePort :
    (closePort s).handled tx c acts rs =
      s.handled tx c (portClosing s.ctl.portOpen ++ acts) rs := by
  unfold closePort portClosing; split <;> simp

end

/-- A handler that ends here adds nothing. -/
theorem drive_ends_handled (s : State) (rs : List TransportReply) :
    drive rs s.ends = s.handled s.tx s.ctl [] rs := by
  rw [drive_ends]; simp [State.handled]

@[simp] theorem closePort_ident (s : State) : (closePort s).ident = s.ident := by
  unfold closePort; split <;> rfl

@[simp] theorem closePort_params (s : State) : (closePort s).params = s.params := by
  unfold closePort; split <;> rfl

/-- The port has opened, and the retry flag is cleared for the send that follows (46_host_link_controller.md R227). -/
def State.reopened (s : State) : State :=
  (s.withCtl { s.ctl with retry := false, portOpen := true }).emit .openedPort

@[simp] theorem State.reopened_ctl (s : State) : s.reopened.ctl = { s.ctl with retry := false, portOpen := true } := rfl

@[simp] theorem State.reopened_ident (s : State) : s.reopened.ident = s.ident := rfl

@[simp] theorem State.reopened_params (s : State) : s.reopened.params = s.params := rfl

@[simp] theorem State.reopened_tx (s : State) : s.reopened.tx = s.tx := rfl

@[simp] theorem State.handled_reopened (s : State) (tx : TxUnit) (c : Controller) (acts : List Action)
    (rs : List TransportReply) : s.reopened.handled tx c acts rs = s.handled tx c (.openedPort :: acts) rs :=
  State.handled_emit _ _ _ _ _ _

/-! Sending a frame. -/

section
variable {s : State} {b c : Byte} {k : CommandKind}

/-- With the identity set the block composes its frame (41_tx_encode.md R128). -/
theorem composeFrame_of_identity (hid : HasIdentity s b c) (k : CommandKind) :
    composeFrame k s = some (encodeFrame k b c, s.withTx (sentTx k b c)) := by
  simp [composeFrame, Identity.pair_eq_some.2 hid, TxUnit.drain_latch, sentTx]

/-- With an identity register unset it composes none (41_tx_encode.md R124). -/
theorem composeFrame_of_unset (h : s.ident.board = none ∨ s.ident.chan = none) (k : CommandKind) :
    composeFrame k s = none := by
  simp [composeFrame, Identity.pair_eq_none.2 h]

/-- On an open port a send composes the frame and asks for its write (46_host_link_controller.md R210). -/
theorem startSend_of_open (hid : HasIdentity s b c) (hopen : s.ctl.portOpen = true) (k : CommandKind) :
    startSend k s = (s.withTx (sentTx k b c)).calls (.write (encodeFrame k b c)) := by
  simp [startSend, composeFrame_of_identity hid, hopen]

/-- A write to a closed port fails (46_host_link_controller.md R210). -/
theorem startSend_of_closed (hid : HasIdentity s b c) (hclosed : s.ctl.portOpen = false) (k : CommandKind) :
    startSend k s = failWrite (s.withTx (sentTx k b c)) := by
  simp [startSend, composeFrame_of_identity hid, hclosed]

/-- With an identity register unset nothing is sent (46_host_link_controller.md R210, 92_eei_decisions.md D9). -/
theorem startSend_of_unset (h : s.ident.board = none ∨ s.ident.chan = none) (k : CommandKind) :
    startSend k s = s.ends := by
  simp [startSend, composeFrame_of_unset h]

theorem sendExpected_eq (hk : s.ctl.link.expectedKind = some k) : sendExpected s = startSend k s := by
  simp [sendExpected, hk]

/-- A send whose write succeeds. -/
theorem drive_startSend_written (hid : HasIdentity s b c) (hopen : s.ctl.portOpen = true) (k : CommandKind)
    (rs : List TransportReply) :
    drive (.succeeded :: rs) (startSend k s) = s.handled (sentTx k b c) s.ctl [.wrote (encodeFrame k b c)] rs := by
  rw [startSend_of_open hid hopen, drive_calls, answered, drive_ends]
  rfl

/-- A send whose write fails goes on as a failed write does. -/
theorem drive_startSend_failed (hid : HasIdentity s b c) (hopen : s.ctl.portOpen = true) (k : CommandKind)
    (rs : List TransportReply) :
    drive (.failed :: rs) (startSend k s) = drive rs (failWrite (s.withTx (sentTx k b c))) := by
  rw [startSend_of_open hid hopen, drive_calls]
  rfl

/-! Opening the port. -/

/-- The port does not open: the reconnect timer is armed (46_host_link_controller.md R227). -/
theorem drive_openPort_failed (s : State) (rs : List TransportReply) :
    drive (.failed :: rs) (s.calls .openPort) =
      s.handled s.tx { s.ctl with reconnectTimers := s.ctl.reconnectTimers + 1 }
        [.recognised .transportOpenFailure, .armedReconnect s.params.backoffMs] rs := by
  simp [answered, openFailed, State.handled, State.emit, State.withCtl]

/-- The port opens with the retry flag set: the handler goes on with the send of the link state's command
(46_host_link_controller.md R227). -/
theorem drive_openPort_succeeded (hk : s.ctl.link.expectedKind = some k) (hretry : s.ctl.retry = true)
    (rs : List TransportReply) :
    drive (.succeeded :: rs) (s.calls .openPort) =
      drive rs (startSend k s.reopened) := by
  rw [drive_calls]
  simp only [answered, openSucceeded, State.emit_ctl, State.withCtl_ctl, hretry, if_true]
  exact congrArg (drive rs) (sendExpected_eq hk)

/-- The port opens and the frame is written. -/
theorem drive_openPort_written (hid : HasIdentity s b c) (hk : s.ctl.link.expectedKind = some k)
    (hretry : s.ctl.retry = true) (rs : List TransportReply) :
    drive (.succeeded :: .succeeded :: rs) (s.calls .openPort) =
      s.handled (sentTx k b c) { s.ctl with retry := false, portOpen := true }
        [.openedPort, .wrote (encodeFrame k b c)] rs := by
  rw [drive_openPort_succeeded hk hretry, drive_startSend_written (s := s.reopened) hid rfl, State.handled_reopened]
  rfl

/-! Hard reconnect. -/

/-- A hard reconnect that opens the port sends the frame of the link state again (46_host_link_controller.md R226, R227). -/
theorem drive_hardReconnect_written (hid : HasIdentity s b c) (hk : s.ctl.link.expectedKind = some k)
    (rs : List TransportReply) :
    drive (.succeeded :: .succeeded :: rs) (hardReconnect s) =
      s.handled (sentTx k b c) { s.ctl with retry := false, portOpen := true }
        (.linkError :: portClosing s.ctl.portOpen ++ [.openedPort, .wrote (encodeFrame k b c)]) rs := by
  rw [hardReconnect_eq, drive_openPort_written (b := b) (c := c) (k := k) (by simpa [HasIdentity] using hid)
    (by simpa using hk) (by simp)]
  simp

/-- A hard reconnect that does not open the port leaves the retry flag set and arms the reconnect timer
(46_host_link_controller.md R226, R227). -/
theorem drive_hardReconnect_failed (s : State) (rs : List TransportReply) :
    drive (.failed :: rs) (hardReconnect s) =
      s.handled s.tx
        { s.ctl with retry := true, portOpen := false, reconnectTimers := s.ctl.reconnectTimers + 1 }
        (.linkError :: portClosing s.ctl.portOpen ++
          [.recognised .transportOpenFailure, .armedReconnect s.params.backoffMs]) rs := by
  rw [hardReconnect_eq, drive_openPort_failed]
  simp

/-- A failed write, and the reconnect after it sends the frame. -/
theorem drive_failWrite_written (hid : HasIdentity s b c) (hk : s.ctl.link.expectedKind = some k)
    (rs : List TransportReply) :
    drive (.succeeded :: .succeeded :: rs) (failWrite s) =
      s.handled (sentTx k b c) { s.ctl with retry := false, portOpen := true }
        ([.recognised .transportWriteFailure, .linkError] ++ portClosing s.ctl.portOpen ++
          [.openedPort, .wrote (encodeFrame k b c)]) rs := by
  rw [failWrite, drive_hardReconnect_written (s := s.emit _) hid hk]
  simp

/-- A failed write, and the port does not open again. -/
theorem drive_failWrite_failed (s : State) (rs : List TransportReply) :
    drive (.failed :: rs) (failWrite s) =
      s.handled s.tx
        { s.ctl with retry := true, portOpen := false, reconnectTimers := s.ctl.reconnectTimers + 1 }
        ([.recognised .transportWriteFailure, .linkError] ++ portClosing s.ctl.portOpen ++
          [.recognised .transportOpenFailure, .armedReconnect s.params.backoffMs]) rs := by
  rw [failWrite, drive_hardReconnect_failed]
  simp

end

end Sys2Proof.Machine
end

section
/-! What the controller does on a call, a transport error and a timer (O48, O49, O57, O58). -/

namespace Sys2Proof.Machine

/-- Settles O49: the handler is a send of the status frame in `Polling`. -/
theorem pollSendsStatus : Obligations.PollSendsStatus := by
  intro s b c rest rs h
  have hstep : step s = .next (drive s.replies (startSend .status ((s.taken rest).setLink .polling))) :=
    step_of_handle h rfl
  refine ⟨fun hid hopen hrs => ?written, fun hid hopen hrs => ?resent, fun hid hopen hrs => ?lost,
    fun hid hclosed hrs => ?reopened, fun hid hclosed hrs => ?refused, fun hunset => ?unset⟩
  case written =>
    rw [hstep, hrs, drive_startSend_written (s := (s.taken rest).setLink .polling) hid hopen]
    simp [State.handled_taken]
  case resent =>
    rw [hstep, hrs, drive_startSend_failed (s := (s.taken rest).setLink .polling) hid hopen,
      drive_failWrite_written (s := ((s.taken rest).setLink .polling).withTx _) (k := .status) hid rfl]
    simp [State.handled_taken, hopen]
  case lost =>
    rw [hstep, hrs, drive_startSend_failed (s := (s.taken rest).setLink .polling) hid hopen, drive_failWrite_failed]
    simp [State.handled_taken, hopen]
  case reopened =>
    rw [hstep, hrs, startSend_of_closed (s := (s.taken rest).setLink .polling) hid hclosed,
      drive_failWrite_written (s := ((s.taken rest).setLink .polling).withTx _) (k := .status) hid rfl]
    simp [State.handled_taken, hclosed]
  case refused =>
    rw [hstep, hrs, startSend_of_closed (s := (s.taken rest).setLink .polling) hid hclosed, drive_failWrite_failed]
    simp [State.handled_taken, hclosed]
  case unset =>
    rw [hstep, startSend_of_unset (s := (s.taken rest).setLink .polling) hunset, drive_ends]
    rfl

/-- What `unlock()` does in `Idle` before it asks for the port (46_host_link_controller.md R212). -/
def State.unlocking (s : State) : State := closePort ((s.setRetry true).setLink .unlocking)

section
variable (s : State)

@[simp] theorem State.unlocking_ident : s.unlocking.ident = s.ident := by simp [State.unlocking]

@[simp] theorem State.unlocking_tx : s.unlocking.tx = s.tx := by simp [State.unlocking]

@[simp] theorem State.unlocking_params : s.unlocking.params = s.params := by simp [State.unlocking]

@[simp] theorem State.unlocking_ctl :
    s.unlocking.ctl = { s.ctl with link := .unlocking, retry := true, portOpen := false } := by
  simp [State.unlocking]

@[simp] theorem State.handled_unlocking (tx : TxUnit) (c : Controller) (acts : List Action) (rs : List TransportReply) :
    s.unlocking.handled tx c acts rs = s.handled tx c (portClosing s.ctl.portOpen ++ acts) rs := by
  simp [State.unlocking]

end

/-- `unlock()` in `Idle` (46_host_link_controller.md R212). -/
theorem onUnlock_of_idle {s : State} (hidle : s.ctl.link = .idle) : onUnlock s = s.unlocking.calls .openPort := by
  unfold onUnlock
  simp only [hidle]
  rfl

/-- `unlock()` elsewhere (46_host_link_controller.md R212, D19). -/
theorem onUnlock_of_not_idle {s : State} (hlink : s.ctl.link ≠ .idle) : onUnlock s = s.ends := by
  unfold onUnlock
  split
  next hidle => exact absurd hidle hlink
  next => rfl

/-- Settles O48: in `Idle` the handler asks for the port, retry set, in `Unlocking`. -/
theorem unlockOpensAndSends : Obligations.UnlockOpensAndSends := by
  intro s b c rest rs h
  have hstep (hidle : s.ctl.link = .idle) : step s = .next (drive s.replies ((s.taken rest).unlocking.calls .openPort)) :=
    step_of_handle h (congrArg Host.Outcome.next (onUnlock_of_idle hidle))
  have hident : (s.taken rest).unlocking.ident = s.ident := by simp
  have hkind : (s.taken rest).unlocking.ctl.link.expectedKind = some .unlock := by
    simp [LinkState.expectedKind]
  have hretry : (s.taken rest).unlocking.ctl.retry = true := by simp
  refine ⟨fun hidle hid hrs => ?written, fun hidle hid hrs => ?lost, fun hidle hunset hrs => ?unset,
    fun hidle hrs => ?refused, fun hlink => ?elsewhere⟩
  case written =>
    rw [hstep hidle, hrs, drive_openPort_written (b := b) (c := c) (by rwa [HasIdentity, hident]) hkind hretry]
    simp [State.handled_taken]
  case lost =>
    have hid' : HasIdentity (s.taken rest).unlocking.reopened b c := by rwa [HasIdentity, State.reopened_ident, hident]
    rw [hstep hidle, hrs, drive_openPort_succeeded hkind hretry, drive_startSend_failed hid' rfl, drive_failWrite_failed]
    simp [State.handled_taken]
  case unset =>
    rw [hstep hidle, hrs, drive_openPort_succeeded hkind hretry,
      startSend_of_unset (by rwa [State.reopened_ident, hident]), drive_ends_handled]
    simp [State.handled_taken]
  case refused =>
    rw [hstep hidle, hrs, drive_openPort_failed]
    simp [State.handled_taken]
  case elsewhere =>
    rw [step_of_handle h (congrArg Host.Outcome.next (onUnlock_of_not_idle hlink)), drive_ends]
    rfl

/-- Settles O57: outside `Idle` the handler is a hard reconnect. -/
theorem transportErrorReconnects : Obligations.TransportErrorReconnects := by
  intro s b c rest rs h
  have hstep (hlink : s.ctl.link ≠ .idle) : step s = .next (drive s.replies (hardReconnect (s.taken rest))) :=
    step_of_handle h (congrArg Host.Outcome.next (if_neg hlink))
  refine ⟨fun k hk hid hrs => ?written, fun hlink hrs => ?refused, fun hidle => ?idle⟩
  case written =>
    rw [hstep (LinkState.ne_idle_of_expectedKind hk), hrs, drive_hardReconnect_written (s := s.taken rest) hid hk]
    rfl
  case refused =>
    rw [hstep hlink, hrs, drive_hardReconnect_failed]
    rfl
  case idle =>
    rw [step_of_handle h (congrArg Host.Outcome.next (if_pos hidle)), drive_ends]
    rfl

/-! The timers: a pending one is used up, and acts if the controller is still where it was armed. -/

/-- A poll timer is used up (46_host_link_controller.md R207; log 10). -/
def State.pollTimerUsed (s : State) : State := s.withCtl { s.ctl with pollTimers := s.ctl.pollTimers - 1 }

/-- A reconnect timer is used up (46_host_link_controller.md R207; log 10). -/
def State.reconnectTimerUsed (s : State) : State := s.withCtl { s.ctl with reconnectTimers := s.ctl.reconnectTimers - 1 }

/-- A pending poll timer sends the status frame in `Polling` and does nothing elsewhere (46_host_link_controller.md R229). -/
theorem onPollElapsed_of_pending {s : State} (h : 0 < s.ctl.pollTimers) :
    onPollElapsed s = if s.ctl.link = .polling then startSend .status s.pollTimerUsed else s.pollTimerUsed.ends :=
  if_neg h.ne'

/-- A pending reconnect timer asks for a closed port outside `Idle` and does nothing else (46_host_link_controller.md
R228). -/
theorem onReconnectElapsed_of_pending {s : State} (h : 0 < s.ctl.reconnectTimers) :
    onReconnectElapsed s =
      if s.ctl.link ≠ .idle ∧ s.ctl.portOpen = false then s.reconnectTimerUsed.calls .openPort
      else s.reconnectTimerUsed.ends :=
  if_neg h.ne'

/-- Settles O58, timer by timer. -/
theorem timersActOnlyWhenCurrent : Obligations.TimersActOnlyWhenCurrent := by
  intro s b c rest rs
  have hpoll (h : Handles s .pollElapsed rest) (hpending : 0 < s.ctl.pollTimers) :
      step s = .next (drive s.replies (if s.ctl.link = .polling then startSend .status (s.taken rest).pollTimerUsed
        else (s.taken rest).pollTimerUsed.ends)) :=
    step_of_handle h (congrArg Host.Outcome.next (onPollElapsed_of_pending (s := s.taken rest) hpending))
  have hreconnect (h : Handles s .reconnectElapsed rest) (hpending : 0 < s.ctl.reconnectTimers) :
      step s = .next (drive s.replies (if s.ctl.link ≠ .idle ∧ s.ctl.portOpen = false
        then (s.taken rest).reconnectTimerUsed.calls .openPort else (s.taken rest).reconnectTimerUsed.ends)) :=
    step_of_handle h (congrArg Host.Outcome.next (onReconnectElapsed_of_pending (s := s.taken rest) hpending))
  refine ⟨fun h hpending hlink hid hopen hrs => ?pollSends, fun h hpending hlink => ?pollStale,
    fun k h hpending hk hclosed hretry hid hrs => ?reconnectSends, fun h hpending hlink hclosed hrs => ?reconnectAgain,
    fun h hpending hstale => ?reconnectStale⟩
  case pollSends =>
    rw [hpoll h hpending, if_pos hlink, hrs,
      drive_startSend_written (s := (s.taken rest).pollTimerUsed) hid hopen]
    rfl
  case pollStale =>
    rw [hpoll h hpending, if_neg hlink, drive_ends]
    rfl
  case reconnectSends =>
    have hcurrent : s.ctl.link ≠ .idle ∧ s.ctl.portOpen = false := ⟨LinkState.ne_idle_of_expectedKind hk, hclosed⟩
    rw [hreconnect h hpending, if_pos hcurrent, hrs,
      drive_openPort_written (s := (s.taken rest).reconnectTimerUsed) hid hk hretry]
    rfl
  case reconnectAgain =>
    have hcount : s.ctl.reconnectTimers - 1 + 1 = s.ctl.reconnectTimers := Nat.sub_add_cancel hpending
    rw [hreconnect h hpending, if_pos ⟨hlink, hclosed⟩, hrs,
      drive_openPort_failed]
    simp [State.reconnectTimerUsed, State.handled_taken, hcount]
  case reconnectStale =>
    have hnot : ¬ (s.ctl.link ≠ .idle ∧ s.ctl.portOpen = false) := by
      rintro ⟨hlink, hclosed⟩
      obtain hidle | hopen := hstale
      · exact hlink hidle
      · simp [hclosed] at hopen
    rw [hreconnect h hpending, if_neg hnot, drive_ends]
    rfl

end Sys2Proof.Machine
end

section
/-! What the controller does on a read event (O51, O52, O53, O54): the chunk is judged as `verify` judges its first `RX_CHUNK`
bytes, and a verified response as `classify` does. -/

namespace Sys2Proof.Machine

/-- A chunk has been read: the block holds what `verify` makes of its bytes, and the handler that reacts to the verdict starts
in a state that is the one before in every other respect (46_host_link_controller.md R211). -/
structure ChunkRead (bytes : List Byte) (s u : State) : Prop where
  rxDone : u.rxDone = some (verdictOf (verify bytes))
  parsed : u.rx.parsed = (verify bytes).toOption
  ident : u.ident = s.ident
  tx : u.tx = s.tx
  environment : SameEnvironment s u

/-- The handler of a read event reacts to the verdict of `verify` on its first `RX_CHUNK` bytes
(46_host_link_controller.md R211, R215). -/
theorem onData_reacts (bytes : List Byte) {s : State} (hlen : respLen ≤ s.params.rxChunk) :
    ∃ u, ChunkRead (bytes.take s.params.rxChunk) s u ∧
      onData bytes s = .next (onRxDone (verdictOf (verify (bytes.take s.params.rxChunk))) u) := by
  obtain ⟨t, v, ht, hv, hdata⟩ := onData_handles_verdict bytes s
  obtain ⟨-, hdone, -, -, hparsed⟩ := receiveChunk_judged hlen ht
  obtain ⟨hident, htx⟩ := receiveChunk_outside ht
  have henv := receiveChunk_environment ht
  cases hv.symm.trans hdone
  exact ⟨t.answering .nothing, ⟨hdone, hparsed, hident, htx, henv⟩, hdata⟩

/-- The step that handles a read event. -/
theorem step_of_read {s : State} {bytes : List Byte} {rest : List Input} (hs : GoodState s)
    (h : Handles s (.dataAvailable bytes) rest) :
    ∃ u, ChunkRead (bytes.take s.params.rxChunk) (s.taken rest) u ∧
      step s = .next (drive s.replies (onRxDone (verdictOf (verify (bytes.take s.params.rxChunk))) u)) := by
  obtain ⟨-, -, -, hlen⟩ := hs
  obtain ⟨u, hu, hdata⟩ := onData_reacts bytes (s := s.taken rest) hlen
  exact ⟨u, hu, step_of_handle h hdata⟩

/-! The reaction to a verdict. -/

section
variable {s : State} {b c : Byte} {k : CommandKind} {bytes : List Byte}

/-- In `Idle` every verdict is ignored (46_host_link_controller.md R216). -/
theorem onRxDone_of_idle (hidle : s.ctl.link = .idle) (v : Verdict) : onRxDone v s = s.ends := by
  unfold onRxDone; rw [hidle]

/-- The name of a verification error in the taxonomy (60_exceptions.md R260). -/
def errorNameOf : VerificationError → ErrorName
  | .headerMismatch => .headerMismatch
  | .checksumMismatch => .checksumMismatch

/-- Elsewhere a failed verdict is soft-retried (46_host_link_controller.md R215). -/
theorem onRxDone_of_error (hlink : s.ctl.link ≠ .idle) (e : VerificationError) :
    onRxDone (verdictOf (.error e)) s = softRetry (errorNameOf e) s := by
  unfold onRxDone
  split
  next hidle => exact absurd hidle hlink
  next => cases e <;> rfl

/-- Elsewhere a verified response is handled (46_host_link_controller.md R215). -/
theorem onRxDone_of_ok (hlink : s.ctl.link ≠ .idle) : onRxDone .ok s = onVerified s := by
  unfold onRxDone
  split
  next hidle => exact absurd hidle hlink
  next => rfl

/-- A verified response is handled as `classify` names it (46_host_link_controller.md R220). -/
theorem onVerified_of_parsed {p : ParsedResponse} (hid : HasIdentity s b c) (hk : s.ctl.link.expectedKind = some k)
    (hp : s.rx.parsed = some p) : onVerified s = onClassified (classify p b c k) s := by
  simp [onVerified, hk, hp, Identity.pair_eq_some.2 hid, classifyFlags_classFlags]

/-- With an identity register unset a verified response is not classified (44_response_classify.md R187; log 12). -/
theorem onVerified_of_unset (h : s.ident.board = none ∨ s.ident.chan = none) : onVerified s = s.ends := by
  unfold onVerified
  rw [Identity.pair_eq_none.2 h]
  split
  next hsome => cases hsome
  next => rfl

/-- A bad read event is soft-retried under its name (46_host_link_controller.md R215, R220). -/
theorem onRxDone_of_badRead {rxChunk : Nat} {e : ErrorName} (hid : HasIdentity s b c)
    (hk : s.ctl.link.expectedKind = some k) (hp : s.rx.parsed = (verify (bytes.take rxChunk)).toOption)
    (hbad : BadRead rxChunk b c k bytes e) :
    onRxDone (verdictOf (verify (bytes.take rxChunk))) s = softRetry e s := by
  have hlink := LinkState.ne_idle_of_expectedKind hk
  unfold BadRead at hbad
  cases hv : verify (bytes.take rxChunk) with
  | error x =>
    rw [hv] at hbad
    rw [onRxDone_of_error hlink]
    cases x <;> cases hbad <;> rfl
  | ok p =>
    rw [hv] at hbad hp
    rw [verdictOf, onRxDone_of_ok hlink, onVerified_of_parsed hid hk hp]
    dsimp only at hbad
    cases hc : classify p b c k <;> rw [hc] at hbad <;> cases hbad <;> rfl

/-- A good read event is handled as an accepted response (46_host_link_controller.md R220). -/
theorem onRxDone_of_goodRead {rxChunk : Nat} {q : LockClass} (hid : HasIdentity s b c)
    (hk : s.ctl.link.expectedKind = some k) (hp : s.rx.parsed = (verify (bytes.take rxChunk)).toOption)
    (hgood : GoodRead rxChunk b c k bytes q) :
    onRxDone (verdictOf (verify (bytes.take rxChunk))) s = onAccept q s := by
  obtain ⟨p, hv, hc⟩ := hgood
  rw [hv] at hp ⊢
  rw [verdictOf, onRxDone_of_ok (LinkState.ne_idle_of_expectedKind hk), onVerified_of_parsed hid hk hp, hc]
  rfl

theorem softRetry_eq (hk : s.ctl.link.expectedKind = some k) (e : ErrorName) :
    softRetry e s = startSend k (s.emit (.recognised e)) := sendExpected_eq (s := s.emit _) hk

end

/-! The step that handles a read event, by its outcome. -/

section
variable {s u : State} {b c : Byte} {k : CommandKind} {bytes : List Byte} {rest : List Input}

/-- What a reaction to a chunk leaves, beside what its outcome says. -/
theorem ChunkRead.handled (hu : ChunkRead bytes (s.taken rest) u) (tx : TxUnit) (ctl : Controller)
    (acts : List Action) (rs : List TransportReply) :
    (u.handled tx ctl acts rs).actions = acts ∧ (u.handled tx ctl acts rs).ident = s.ident ∧
      (u.handled tx ctl acts rs).inbox = rest ∧
      (u.handled tx ctl acts rs).rxDone = some (verdictOf (verify bytes)) := by
  obtain ⟨-, -, hactions, hinbox, -⟩ := hu.environment
  exact ⟨congrArg (· ++ acts) hactions, hu.ident, hinbox, hu.rxDone⟩

theorem ChunkRead.ctl_eq (hu : ChunkRead bytes (s.taken rest) u) : u.ctl = s.ctl := by
  obtain ⟨hctl, -⟩ := hu.environment
  exact hctl

theorem ChunkRead.params_eq (hu : ChunkRead bytes (s.taken rest) u) : u.params = s.params := by
  obtain ⟨-, hparams, -⟩ := hu.environment
  exact hparams

theorem ChunkRead.hasIdentity (hu : ChunkRead bytes (s.taken rest) u) (hid : HasIdentity s b c) : HasIdentity u b c := by
  rw [HasIdentity, hu.ident]
  exact hid

/-- Settles O53: every verdict is ignored in `Idle`. -/
theorem idleIgnoresReadEvents : Obligations.IdleIgnoresReadEvents := by
  intro s bytes rest h hs hidle
  obtain ⟨u, hu, hstep⟩ := step_of_read hs h
  rw [onRxDone_of_idle (hu.ctl_eq ▸ hidle), drive_ends_handled] at hstep
  obtain ⟨hactions, hident, hinbox, hdone⟩ := hu.handled u.tx u.ctl [] s.replies
  exact ⟨_, hstep, hu.ctl_eq, hu.tx, hident, hactions, rfl, hinbox, hdone⟩

/-- The step that handles a bad read event sends the link state's frame, its error recognised
(46_host_link_controller.md R222). -/
theorem step_of_badRead {e : ErrorName} (hs : GoodState s) (h : Handles s (.dataAvailable bytes) rest)
    (hid : HasIdentity s b c) (hk : s.ctl.link.expectedKind = some k) (hbad : BadRead s.params.rxChunk b c k bytes e) :
    ∃ u, ChunkRead (bytes.take s.params.rxChunk) (s.taken rest) u ∧
      step s = .next (drive s.replies (startSend k (u.emit (.recognised e)))) := by
  obtain ⟨u, hu, hstep⟩ := step_of_read hs h
  have hk' : u.ctl.link.expectedKind = some k := hu.ctl_eq ▸ hk
  rw [onRxDone_of_badRead (hu.hasIdentity hid) hk' hu.parsed hbad, softRetry_eq hk'] at hstep
  exact ⟨u, hu, hstep⟩

/-- A bad read event with a successful write: the frame is sent once and the controller is as it was. -/
theorem step_of_badRead_written {e : ErrorName} {rs : List TransportReply} (hs : GoodState s)
    (h : Handles s (.dataAvailable bytes) rest) (hid : HasIdentity s b c) (hk : s.ctl.link.expectedKind = some k)
    (hopen : s.ctl.portOpen = true) (hbad : BadRead s.params.rxChunk b c k bytes e) (hrs : s.replies = .succeeded :: rs) :
    ∃ t, step s = .next t ∧ t.ctl = s.ctl ∧ t.tx = sentTx k b c ∧ t.ident = s.ident ∧ t.inbox = rest ∧
      t.replies = rs ∧ t.actions = [.recognised e, .wrote (encodeFrame k b c)] := by
  obtain ⟨u, hu, hstep⟩ := step_of_badRead hs h hid hk hbad
  rw [hrs, drive_startSend_written (s := u.emit _) (hu.hasIdentity hid) (hu.ctl_eq ▸ hopen), State.handled_emit] at hstep
  obtain ⟨hactions, hident, hinbox, -⟩ := hu.handled (sentTx k b c) u.ctl
    [.recognised e, .wrote (encodeFrame k b c)] rs
  exact ⟨_, hstep, hu.ctl_eq, rfl, hident, hinbox, rfl, hactions⟩

end

/-- Settles O52: a bad read is a soft retry of the send, by what the transport answers to it; with the identity unset the
send is none. -/
theorem badReadIsSoftRetried : Obligations.BadReadIsSoftRetried := by
  intro s b c k bytes e rest rs h hs hk hopen
  refine ⟨fun hid hbad hrs => step_of_badRead_written hs h hid hk hopen hbad hrs, fun hid hbad hrs => ?resent,
    fun hid hbad hrs => ?lost, fun hunset => ?unset⟩
  case resent =>
    obtain ⟨u, hu, hstep⟩ := step_of_badRead hs h hid hk hbad
    have hctl := hu.ctl_eq
    have hid' := hu.hasIdentity hid
    rw [hrs, drive_startSend_failed (s := u.emit _) hid' (hctl ▸ hopen),
      drive_failWrite_written (s := (u.emit _).withTx _) hid' (hctl ▸ hk), State.handled_withTx, State.handled_emit,
      State.withTx_ctl, State.emit_ctl, hctl, hopen] at hstep
    obtain ⟨hactions, hident, hinbox, -⟩ := hu.handled _ _ _ _
    exact ⟨_, hstep, rfl, rfl, hident, hinbox, rfl, hactions⟩
  case lost =>
    obtain ⟨u, hu, hstep⟩ := step_of_badRead hs h hid hk hbad
    have hctl := hu.ctl_eq
    rw [hrs, drive_startSend_failed (s := u.emit _) (hu.hasIdentity hid) (hctl ▸ hopen), drive_failWrite_failed,
      State.handled_withTx, State.handled_emit, State.withTx_ctl, State.emit_ctl, hctl, hopen, State.withTx_params,
      State.emit_params, hu.params_eq] at hstep
    obtain ⟨hactions, hident, hinbox, -⟩ := hu.handled _ _ _ _
    exact ⟨_, hstep, rfl, rfl, hident, hinbox, rfl, hactions⟩
  case unset =>
    obtain ⟨u, hu, hstep⟩ := step_of_read hs h
    have hctl := hu.ctl_eq
    have hunset' : u.ident.board = none ∨ u.ident.chan = none := by rw [hu.ident]; exact hunset
    have hk' : u.ctl.link.expectedKind = some k := hctl ▸ hk
    have hlink := LinkState.ne_idle_of_expectedKind hk'
    cases hv : verify (bytes.take s.params.rxChunk) with
    | error x =>
      rw [hv, onRxDone_of_error hlink, softRetry_eq hk', startSend_of_unset (s := u.emit _) hunset',
        drive_ends_handled, State.handled_emit] at hstep
      obtain ⟨hactions, hident, hinbox, hdone⟩ := hu.handled u.tx u.ctl [.recognised (errorNameOf x)] s.replies
      refine ⟨_, hstep, hctl, hu.tx, hident, hinbox, rfl, hv ▸ hdone, hactions.trans ?_⟩
      cases x <;> rfl
    | ok p =>
      rw [hv, verdictOf, onRxDone_of_ok hlink, onVerified_of_unset hunset', drive_ends_handled] at hstep
      obtain ⟨hactions, hident, hinbox, hdone⟩ := hu.handled u.tx u.ctl [] s.replies
      exact ⟨_, hstep, hctl, hu.tx, hident, hinbox, rfl, hv ▸ hdone, hactions⟩

/-- Settles O54, by induction on the reads: each is one send that leaves the controller and the identity as they were, in a
good state. -/
theorem retryIsIdempotent : Obligations.RetryIsIdempotent := by
  intro s b c k reads rest rs hs hid hk hopen hinbox hbad hrs
  induction reads generalizing s with
  | nil => exact ⟨[], s, rfl, rfl, by simp, rfl, rfl, hinbox, hrs, hs⟩
  | cons x reads ih =>
    obtain ⟨⟨e, he⟩, hbad⟩ := List.forall_mem_cons.1 hbad
    obtain ⟨t, hstep, hctl, -, hident, hin, hreplies, hactions⟩ := step_of_badRead_written hs hinbox hid hk hopen he hrs
    rw [← parametersAreFixed s t hstep] at hbad
    obtain ⟨acts, u, htrace, hlen, hsent, hctl', hident', hrest, hleft, hgood⟩ :=
      ih t (stepKeepsGoodStates s t hs hstep) (by rwa [HasIdentity, hident]) (hctl ▸ hk) (hctl ▸ hopen) hin hbad hreplies
    exact ⟨t.actions :: acts, u, by simp only [List.length_cons, traceSteps, hstep, htrace], congrArg (· + 1) hlen,
      List.forall_mem_cons.2 ⟨⟨e, hactions⟩, hsent⟩, hctl'.trans hctl, hident'.trans hident, hrest, hleft, hgood⟩

/-! An accepted response. -/

/-- No response is accepted with an unknown lock status (44_response_classify.md R185). -/
theorem classify_ne_accept_invalid (p : ParsedResponse) (b c : Byte) (k : CommandKind) :
    classify p b c k ≠ .accept .invalid := by
  rw [classify_eq_ite]
  split_ifs <;> simp

/-- The step that handles an accepted response runs its row of the table. -/
theorem step_of_goodRead {s : State} {b c : Byte} {k : CommandKind} {bytes : List Byte} {q : LockClass} {rest : List Input}
    (hs : GoodState s) (h : Handles s (.dataAvailable bytes) rest) (hid : HasIdentity s b c)
    (hk : s.ctl.link.expectedKind = some k) (hgood : GoodRead s.params.rxChunk b c k bytes q) :
    ∃ u, ChunkRead (bytes.take s.params.rxChunk) (s.taken rest) u ∧ step s = .next (drive s.replies (onAccept q u)) := by
  obtain ⟨u, hu, hstep⟩ := step_of_read hs h
  rw [onRxDone_of_goodRead (hu.hasIdentity hid) (hu.ctl_eq ▸ hk) hu.parsed hgood] at hstep
  exact ⟨u, hu, hstep⟩

/-- The table's rows outside `Polling` send the status frame, in the link state they give (46_host_link_controller.md
R223, R224). -/
def LinkState.afterAccept : LinkState → LockClass → Option LinkState
  | .unlocking, .unlocked => some .polling
  | .unlocking, .locked => some .waitingToUnlock
  | .waitingToUnlock, .unlocked => some .polling
  | .waitingToUnlock, .locked => some .waitingToUnlock
  | _, _ => none

theorem onAccept_of_afterAccept {s : State} {q : LockClass} {l : LinkState} (hl : s.ctl.link.afterAccept q = some l) :
    onAccept q s = startSend .status (s.setLink l) := by
  unfold onAccept
  split
  next hlink => rw [hlink] at hl; cases hl; rfl
  next hlink => rw [hlink] at hl; cases hl; rfl
  next hlink => rw [hlink] at hl; cases hl; rfl
  next hlink => rw [hlink] at hl; cases hl; rw [← hlink]; rfl
  next hlink => rw [hlink] at hl; cases hl
  next hlink => rw [hlink] at hl; cases hl
  next hlink => rw [hlink] at hl; cases hl
  next => cases hlink : s.ctl.link <;> rw [hlink] at hl <;> cases hl

/-- In `Polling` an unlocked compartment is polled again later (46_host_link_controller.md R225). -/
theorem onAccept_of_polling_unlocked {s : State} (hlink : s.ctl.link = .polling) :
    onAccept .unlocked s =
      ((s.withCtl { s.ctl with pollTimers := s.ctl.pollTimers + 1 }).emit (.armedPoll s.params.pollMs)).ends := by
  unfold onAccept; rw [hlink]

/-- The session has ended: the compartment is locked (46_host_link_controller.md R225). -/
def State.sessionEnded (s : State) : State := (closePort (s.emit .locked)).setLink .idle

@[simp] theorem State.sessionEnded_tx (s : State) : s.sessionEnded.tx = s.tx := by
  simp [State.sessionEnded]

@[simp] theorem State.sessionEnded_ctl (s : State) :
    s.sessionEnded.ctl = { s.ctl with link := .idle, portOpen := false } := by
  simp [State.sessionEnded]

@[simp] theorem State.handled_sessionEnded (s : State) (tx : TxUnit) (c : Controller) (acts : List Action)
    (rs : List TransportReply) :
    s.sessionEnded.handled tx c acts rs = s.handled tx c (.locked :: portClosing s.ctl.portOpen ++ acts) rs := by
  simp [State.sessionEnded]

/-- In `Polling` a locked compartment ends the session (46_host_link_controller.md R225). -/
theorem onAccept_of_polling_locked {s : State} (hlink : s.ctl.link = .polling) :
    onAccept .locked s = s.sessionEnded.ends := by
  unfold onAccept; rw [hlink]; rfl

section
variable {s : State} {b c : Byte} {k : CommandKind} {bytes : List Byte} {q : LockClass} {rest : List Input}

theorem GoodRead.verdict_eq {rxChunk : Nat} (h : GoodRead rxChunk b c k bytes q) :
    verdictOf (verify (bytes.take rxChunk)) = .ok := by
  obtain ⟨p, hp, -⟩ := h
  exact verdictOf_eq_ok.2 ⟨p, hp⟩

theorem GoodRead.ne_invalid {rxChunk : Nat} (h : GoodRead rxChunk b c k bytes q) : q ≠ .invalid := by
  rintro rfl
  obtain ⟨p, -, hc⟩ := h
  exact classify_ne_accept_invalid p b c k hc

/-- The rows that send: the status frame is written and the link state is the row's (46_host_link_controller.md R223,
R224). -/
theorem step_of_goodRead_sends {l : LinkState} {rs : List TransportReply} (hs : GoodState s)
    (h : Handles s (.dataAvailable bytes) rest) (hid : HasIdentity s b c) (hk : s.ctl.link.expectedKind = some k)
    (hopen : s.ctl.portOpen = true) (hgood : GoodRead s.params.rxChunk b c k bytes q)
    (hl : s.ctl.link.afterAccept q = some l) (hrs : s.replies = .succeeded :: rs) :
    ∃ t, step s = .next t ∧ t.rxDone = some .ok ∧ t.inbox = rest ∧ t.ident = s.ident ∧
      t.ctl = { s.ctl with link := l } ∧ t.actions = [.wrote (encodeFrame .status b c)] ∧ t.replies = rs ∧
        t.tx = sentTx .status b c := by
  obtain ⟨u, hu, hstep⟩ := step_of_goodRead hs h hid hk hgood
  have hctl := hu.ctl_eq
  have hopen' : u.ctl.portOpen = true := hctl ▸ hopen
  rw [onAccept_of_afterAccept (hctl ▸ hl), hrs,
    drive_startSend_written (s := u.setLink l) (hu.hasIdentity hid) hopen', State.handled_setLink, State.setLink_ctl,
    hctl] at hstep
  obtain ⟨hactions, hident, hinbox, hdone⟩ := hu.handled _ _ _ _
  rw [hgood.verdict_eq] at hdone
  exact ⟨_, hstep, hdone, hinbox, hident, rfl, hactions, rfl, rfl⟩

/-- `Polling` with an unlocked compartment: the poll timer is armed, the transport is not asked. -/
theorem step_of_goodRead_armsPoll (hs : GoodState s) (h : Handles s (.dataAvailable bytes) rest)
    (hid : HasIdentity s b c) (hlink : s.ctl.link = .polling) (hk : s.ctl.link.expectedKind = some k)
    (hgood : GoodRead s.params.rxChunk b c k bytes .unlocked) :
    ∃ t, step s = .next t ∧ t.rxDone = some .ok ∧ t.inbox = rest ∧ t.ident = s.ident ∧
      t.ctl = { s.ctl with pollTimers := s.ctl.pollTimers + 1 } ∧ t.actions = [.armedPoll s.params.pollMs] ∧
        t.replies = s.replies ∧ t.tx = s.tx := by
  obtain ⟨u, hu, hstep⟩ := step_of_goodRead hs h hid hk hgood
  have hctl := hu.ctl_eq
  rw [onAccept_of_polling_unlocked (hctl ▸ hlink), drive_ends_handled, State.handled_emit, State.handled_withCtl,
    State.emit_ctl, State.withCtl_ctl, hctl, hu.params_eq] at hstep
  obtain ⟨hactions, hident, hinbox, hdone⟩ := hu.handled _ _ _ _
  rw [hgood.verdict_eq] at hdone
  exact ⟨_, hstep, hdone, hinbox, hident, rfl, hactions, rfl, hu.tx⟩

/-- `Polling` with a locked compartment: the session ends in `Idle`, the transport is not asked. -/
theorem step_of_goodRead_endsSession (hs : GoodState s) (h : Handles s (.dataAvailable bytes) rest)
    (hid : HasIdentity s b c) (hlink : s.ctl.link = .polling) (hk : s.ctl.link.expectedKind = some k)
    (hopen : s.ctl.portOpen = true) (hgood : GoodRead s.params.rxChunk b c k bytes .locked) :
    ∃ t, step s = .next t ∧ t.rxDone = some .ok ∧ t.inbox = rest ∧ t.ident = s.ident ∧
      t.ctl = { s.ctl with link := .idle, portOpen := false } ∧ t.actions = [.locked, .closedPort] ∧
        t.replies = s.replies ∧ t.tx = s.tx := by
  obtain ⟨u, hu, hstep⟩ := step_of_goodRead hs h hid hk hgood
  have hctl := hu.ctl_eq
  rw [onAccept_of_polling_locked (hctl ▸ hlink), drive_ends_handled, State.handled_sessionEnded,
    State.sessionEnded_ctl, State.sessionEnded_tx, hctl, hopen] at hstep
  obtain ⟨hactions, hident, hinbox, hdone⟩ := hu.handled _ _ _ _
  rw [hgood.verdict_eq] at hdone
  exact ⟨_, hstep, hdone, hinbox, hident, rfl, hactions, rfl, hu.tx⟩

end

/-- Settles O51, row by row of the table. -/
theorem acceptedResponseActsByTheTable : Obligations.AcceptedResponseActsByTheTable := by
  intro s b c k bytes q rest rs h hs hid hk hopen hgood hrs
  have hsends {l : LinkState} (hlink : s.ctl.link ≠ .polling) (hl : s.ctl.link.afterAccept q = some l) :=
    step_of_goodRead_sends hs h hid hk hopen hgood hl (hrs hlink)
  cases hlink : s.ctl.link with
  | idle => rw [hlink] at hk; cases hk
  | unlocking =>
    rw [hlink] at hsends
    cases q with
    | unlocked => exact hsends nofun rfl
    | locked => exact hsends nofun rfl
    | invalid => exact absurd rfl hgood.ne_invalid
  | waitingToUnlock =>
    rw [hlink] at hsends
    cases q with
    | unlocked => exact hsends nofun rfl
    | locked =>
      have hsame : { s.ctl with link := .waitingToUnlock } = s.ctl := by rw [← hlink]
      rw [← hsame]
      exact hsends nofun rfl
    | invalid => exact absurd rfl hgood.ne_invalid
  | polling =>
    cases q with
    | unlocked => exact step_of_goodRead_armsPoll hs h hid hlink hk hgood
    | locked => exact step_of_goodRead_endsSession hs h hid hlink hk hopen hgood
    | invalid => exact absurd rfl hgood.ne_invalid

end Sys2Proof.Machine
end

section
/-! Which events the controller emits to its caller (O55, O56): what a handler does to the outside is routine, but for the
`linkError` of a transport error and the `locked` of a locked compartment in `Polling`. -/

namespace Sys2Proof.Machine

/-- From the actions `as` a handler has gone on by routine: it has done what is neither `locked` nor `linkError` nor a failed
write, and each failed write has been followed by its `linkError` (46_host_link_controller.md R210, R226). -/
inductive Routine (as : List Action) : List Action → Prop where
  | start : Routine as as
  | act {bs : List Action} {a : Action} (h : Routine as bs) (hlocked : a ≠ .locked) (herror : a ≠ .linkError)
      (hwrite : a ≠ .recognised .transportWriteFailure) : Routine as (bs ++ [a])
  | failedWrite {bs : List Action} (h : Routine as bs) :
      Routine as (bs ++ [.recognised .transportWriteFailure] ++ [.linkError])

/-- Routine emits no `locked`. -/
theorem Routine.count_locked {as bs : List Action} (h : Routine as bs) : bs.count .locked = as.count .locked := by
  induction h with
  | start => rfl
  | act _ hlocked _ _ ih => simp [List.count_append, hlocked, ih]
  | failedWrite _ ih => simp [List.count_append, ih]

/-- Routine emits a `linkError` per failed write. -/
theorem Routine.count_linkError {as bs : List Action} (h : Routine as bs) :
    bs.count .linkError + as.count (.recognised .transportWriteFailure) =
      bs.count (.recognised .transportWriteFailure) + as.count .linkError := by
  induction h with
  | start => exact Nat.add_comm _ _
  | act _ _ herror hwrite ih => simpa [List.count_append, herror, hwrite] using ih
  | failedWrite _ ih => simp [List.count_append]; omega

/-! The parts of a handler. -/

section
variable {as : List Action} {s : State}

theorem Routine.emit {a : Action} (h : Routine as s.actions) (hlocked : a ≠ .locked) (herror : a ≠ .linkError)
    (hwrite : a ≠ .recognised .transportWriteFailure) :
    Routine as (s.emit a).actions := h.act hlocked herror hwrite

theorem closePort_routine (h : Routine as s.actions) : Routine as (closePort s).actions := by
  unfold closePort
  split
  · exact Routine.emit (s := s.withCtl _) h nofun nofun nofun
  · exact h

/-- A hard reconnect is routine from its `linkError` on. -/
theorem hardReconnect_routine (h : Routine as (s.actions ++ [.linkError])) : Routine as (hardReconnect s).1.actions :=
  closePort_routine (s := (s.emit .linkError).setRetry true) h

theorem failWrite_routine (h : Routine as s.actions) : Routine as (failWrite s).1.actions :=
  hardReconnect_routine (s := s.emit _) h.failedWrite

theorem startSend_routine (h : Routine as s.actions) (k : CommandKind) : Routine as (startSend k s).1.actions := by
  obtain ⟨-, h'⟩ | ⟨b, c, -, h'⟩ := startSend_cases k s
  · rw [h']; exact h
  · rw [h']
    dsimp only
    split
    · exact h
    · exact failWrite_routine (s := s.withTx _) h

theorem startSend_setLink_routine (h : Routine as s.actions) (l : LinkState) (k : CommandKind) :
    Routine as (startSend k (s.setLink l)).1.actions :=
  startSend_routine (s := s.setLink l) h k

theorem sendExpected_routine (h : Routine as s.actions) : Routine as (sendExpected s).1.actions := by
  unfold sendExpected
  split
  · exact h
  · exact startSend_routine h _

theorem openSucceeded_routine (h : Routine as s.actions) : Routine as (openSucceeded s).1.actions := by
  have hopened : Routine as ((s.withCtl { s.ctl with portOpen := true }).emit .openedPort).actions :=
    Routine.emit (s := s.withCtl _) h nofun nofun nofun
  unfold openSucceeded
  dsimp only
  split
  · exact sendExpected_routine (s := State.setRetry _ false) hopened
  · exact hopened

theorem openFailed_routine (h : Routine as s.actions) : Routine as (openFailed s).actions :=
  .emit (s := (s.withCtl _).emit _) (.emit (s := s.withCtl _) h nofun nofun (by simp)) nofun nofun nofun

/-- Every answer of the transport is reacted to by routine. -/
theorem answered_routine (h : Routine as s.actions) (r : TransportReply) (c : TransportCall) :
    Routine as (answered r c s).1.actions := by
  match c, r with
  | .openPort, .succeeded => exact openSucceeded_routine h
  | .openPort, .failed => exact openFailed_routine h
  | .write f, .succeeded => exact h.emit nofun nofun nofun
  | .write f, .failed => exact failWrite_routine h

theorem drive_routine {g : Handling} (h : Routine as g.1.actions) (rs : List TransportReply) :
    Routine as (drive rs g).actions :=
  drive_keeps (P := fun g => Routine as g.1.actions) (Q := fun t => Routine as t.actions)
    (fun _ _ hs => hs) (fun _ r c hs => answered_routine hs r c) rs g h

/-! The handlers of the events. -/

theorem onUnlock_routine (h : Routine as s.actions) : Routine as (onUnlock s).1.actions := by
  unfold onUnlock
  split
  · exact closePort_routine (s := (s.setRetry true).setLink _) h
  · exact h

theorem onReconnectElapsed_routine (h : Routine as s.actions) : Routine as (onReconnectElapsed s).1.actions := by
  unfold onReconnectElapsed
  split
  · exact h
  · dsimp only; split <;> exact h

theorem onPollElapsed_routine (h : Routine as s.actions) : Routine as (onPollElapsed s).1.actions := by
  unfold onPollElapsed
  split
  · exact h
  · dsimp only
    split
    · exact startSend_routine (s := s.pollTimerUsed) h .status
    · exact h

theorem onResponseOverdue_routine (h : Routine as s.actions) : Routine as (onResponseOverdue s).1.actions := by
  unfold onResponseOverdue
  split
  · exact sendExpected_routine h
  · exact h

theorem softRetry_routine (h : Routine as s.actions) {e : ErrorName} (he : e ≠ .transportWriteFailure) :
    Routine as (softRetry e s).1.actions :=
  sendExpected_routine (s := s.emit _) (h.emit nofun nofun (by simpa using he))

/-- A handler that reacts to a chunk goes on by routine or ends the session (46_host_link_controller.md R225, R231). -/
def RoutineOrSessionEnd (as : List Action) (s : State) (g : Handling) : Prop :=
  Routine as g.1.actions ∨ (s.ctl.link = .polling ∧ g = s.sessionEnded.ends)

theorem onAccept_routine (h : Routine as s.actions) (q : LockClass) : RoutineOrSessionEnd as s (onAccept q s) := by
  unfold onAccept
  split
  · exact .inl (startSend_setLink_routine h _ .status)
  · exact .inl (startSend_setLink_routine h _ .status)
  · exact .inl (startSend_setLink_routine h _ .status)
  · exact .inl (startSend_routine h .status)
  · exact .inl (Routine.emit (s := s.withCtl _) h nofun nofun nofun)
  next hlink => exact .inr ⟨hlink, rfl⟩
  · exact .inl h
  · exact .inl h

theorem onVerified_routine (h : Routine as s.actions) : RoutineOrSessionEnd as s (onVerified s) := by
  unfold onVerified
  split
  next k p b c _ _ _ =>
    cases classifyFlags (classFlags p b c) k with
    | accept q => exact onAccept_routine h q
    | addressMismatch | commandMismatch | statusError | unknownLockStatus => exact .inl (softRetry_routine h (by decide))
  · exact .inl h

theorem onRxDone_routine (h : Routine as s.actions) (v : Verdict) : RoutineOrSessionEnd as s (onRxDone v s) := by
  unfold onRxDone
  split
  · exact .inl h
  · cases v with
    | ok => exact onVerified_routine h
    | headerMismatch | checksumMismatch => exact .inl (softRetry_routine h (by decide))

end

/-- All that a handler can have done to the outside at its first transport call or its end: by routine; the `linkError` of a
transport error; the end of the session. -/
theorem handle_actions_cases {e : Event} {s : State} {g : Handling} (hstart : s.actions = [])
    (hg : handle e s = .next g) :
    (¬ (e = .transportError ∧ s.ctl.link ≠ .idle) ∧ Routine [] g.1.actions) ∨
    (e = .transportError ∧ s.ctl.link ≠ .idle ∧ Routine [.linkError] g.1.actions) ∨
    (∃ (bytes : List Byte) (u : State), e = .dataAvailable bytes ∧ s.ctl.link = .polling ∧ u.ctl = s.ctl ∧ u.actions = [] ∧
      g = u.sessionEnded.ends) := by
  have h : Routine [] s.actions := hstart ▸ .start
  cases e with
  | unlockCall => cases hg; exact .inl ⟨nofun, onUnlock_routine h⟩
  | pollCall => cases hg; exact .inl ⟨nofun, startSend_setLink_routine h _ .status⟩
  | setBoardCall d => cases hg; exact .inl ⟨nofun, h⟩
  | setChannelCall d => cases hg; exact .inl ⟨nofun, h⟩
  | dataAvailable bytes =>
    obtain ⟨t, v, ht, -, hdata⟩ := onData_handles_verdict bytes s
    cases hdata.symm.trans hg
    obtain ⟨hctl, -, hactions, -⟩ := receiveChunk_environment ht
    have hu : (t.answering .nothing).actions = [] := hactions.trans hstart
    obtain hroutine | ⟨hlink, hend⟩ := onRxDone_routine (s := t.answering .nothing) (as := []) (hu ▸ .start) v
    · exact .inl ⟨nofun, hroutine⟩
    · exact .inr (.inr ⟨bytes, t.answering .nothing, rfl, hctl ▸ hlink, hctl, hu, hend⟩)
  | reconnectElapsed => cases hg; exact .inl ⟨nofun, onReconnectElapsed_routine h⟩
  | pollElapsed => cases hg; exact .inl ⟨nofun, onPollElapsed_routine h⟩
  | transportError =>
    cases hg
    unfold onTransportError
    split
    next hidle => exact .inl ⟨fun ⟨_, hlink⟩ => hlink hidle, h⟩
    next hlink => exact .inr (.inl ⟨rfl, hlink, hardReconnect_routine (by rw [hstart]; exact .start)⟩)
  | responseOverdue => cases hg; exact .inl ⟨nofun, onResponseOverdue_routine h⟩

/-- All that a step can have done to the outside. -/
theorem step_actions_cases {s t : State} (h : step s = .next t) :
    (¬ (s.inbox.head? = some (.event .transportError) ∧ s.ctl.link ≠ .idle) ∧ Routine [] t.actions) ∨
    ((s.inbox.head? = some (.event .transportError) ∧ s.ctl.link ≠ .idle) ∧ Routine [.linkError] t.actions) ∨
    ((∃ bytes rest, Handles s (.dataAvailable bytes) rest) ∧ s.ctl.link = .polling ∧ t.ctl.link = .idle ∧
      t.ctl.portOpen = false ∧ t.actions = .locked :: portClosing s.ctl.portOpen) := by
  obtain ⟨hinbox, h'⟩ | ⟨r, rest, hinbox, h'⟩ | ⟨e, rest, hinbox, -⟩ := step_cases s
  · cases h'.symm.trans h
    exact .inl ⟨by simp [hinbox], .start⟩
  · obtain ⟨-, -, hactions, -⟩ := runRequest_environment (h'.symm.trans h)
    exact .inl ⟨by simp [hinbox], hactions ▸ .start⟩
  · obtain ⟨g, hg, -⟩ := handle_completes e (s.taken_answer rest)
    cases (step_of_handle hinbox hg).symm.trans h
    obtain ⟨hnot, hroutine⟩ | ⟨rfl, hlink, hroutine⟩ | ⟨bytes, u, rfl, hlink, hctl, hu, rfl⟩ :=
      handle_actions_cases (s.taken_actions rest) hg
    · exact .inl ⟨by simpa [hinbox] using hnot, drive_routine hroutine _⟩
    · exact .inr (.inl ⟨⟨by simp [hinbox], hlink⟩, drive_routine hroutine _⟩)
    · rw [drive_ends_handled, State.handled_sessionEnded, State.sessionEnded_ctl, List.append_nil]
      refine .inr (.inr ⟨⟨bytes, rest, hinbox⟩, hlink, rfl, rfl, ?_⟩)
      rw [State.handled, hu, hctl]
      rfl

/-- Settles O55: routine emits no `locked`. -/
theorem lockedOnlyFromPolling : Obligations.LockedOnlyFromPolling := by
  intro s t h hlocked
  have hcount : t.actions.count .locked ≠ 0 := (List.count_pos_iff.2 hlocked).ne'
  obtain ⟨-, hroutine⟩ | ⟨-, hroutine⟩ | ⟨hread, hlink, hidle, hclosed, hactions⟩ := step_actions_cases h
  · exact absurd hroutine.count_locked hcount
  · exact absurd hroutine.count_locked hcount
  · refine ⟨hread, hlink, hidle, hclosed, ?_⟩
    rw [hactions]
    cases s.ctl.portOpen <;> rfl

/-- Settles O56: routine emits a `linkError` per failed write, and a transport error begins with one. -/
theorem linkErrorPerHardReconnect : Obligations.LinkErrorPerHardReconnect := by
  intro s t h
  obtain ⟨hnot, hroutine⟩ | ⟨herror, hroutine⟩ | ⟨⟨bytes, rest, hread⟩, -, -, -, hactions⟩ := step_actions_cases h
  · rw [if_neg hnot]
    exact hroutine.count_linkError
  · rw [if_pos herror]
    exact hroutine.count_linkError
  · have hinbox : s.inbox = .event (.dataAvailable bytes) :: rest := hread
    rw [if_neg (by simp [hinbox]), hactions]
    cases s.ctl.portOpen <;> rfl

end Sys2Proof.Machine
end

section
/-! The state after power-on (70_reset_and_hazards.md R301, R303): the registers, and the views that follow from them (O30). -/

namespace Sys2Proof.Machine

/-- Without an `Ok` the view `parsed` is absent (10_state.md R35). -/
theorem RxUnit.parsed_eq_none {rx : RxUnit} (h : rx.result ≠ some .ok) : rx.parsed = none := if_neg h

/-- Before the fourth byte of a chunk no header is detected (10_state.md R36). -/
theorem RxUnit.hdrDet_eq_false {rx : RxUnit} (h : rx.cnt < 4) : rx.hdrDet = false := by
  rw [RxUnit.hdrDet, decide_eq_false h.not_ge, Bool.false_and]

/-- `STAT` is zero when nothing is being sent and no byte of a chunk has come (10_state.md R39). -/
theorem statRecord_packed_eq_zero {tx : TxUnit} {rx : RxUnit} (hbusy : tx.busy = false) (hidx : tx.idx = 0)
    (hopen : rx.isOpen = false) (hcnt : rx.cnt = 0) : (statRecord tx rx).packed = 0 := by
  have hdet : rx.hdrDet = false := RxUnit.hdrDet_eq_false (by omega)
  simp [statRecord, StatRecord.packed, bit, hbusy, hidx, hopen, hcnt, hdet]

/-- Settles O30: the registers are read off the definitions, and the views follow from a unit without byte and result. -/
theorem powerOnState : Obligations.PowerOnState := by
  have hparsed : State.reset.rx.parsed = none := RxUnit.parsed_eq_none (show none ≠ some Verdict.ok from nofun)
  have hdet : State.reset.rx.hdrDet = false := RxUnit.hdrDet_eq_false (show 0 < 4 by decide)
  have hstat : (statRecord State.reset.tx State.reset.rx).packed = 0 := statRecord_packed_eq_zero rfl rfl rfl rfl
  exact ⟨rfl, rfl, rfl, hparsed, hdet, hstat, rfl, rfl, rfl, rfl, rfl, rfl⟩

end Sys2Proof.Machine
end
